-- ==== Sys2Proof/Word.lean ====
section
/-! DEFINITION. The words of the block: bytes of the streams and of the grid, 16-bit sprite words (R8, R10, R11). -/

namespace Sys2Proof

/-- A byte of PLANAR or LINEAR, and one pixel-grid entry (`PIX_W = 8`, R8, R21, D8). -/
abbrev Byte := BitVec 8

/-- A sprite accumulator: "is a 16-bit value" (R8, R92). -/
abbrev SpriteWord := BitVec 16

end Sys2Proof
end

