-- ==== Sys2Proof/Config.lean ====
section
/-! DEFINITION. What the spec fixes for every run (R8), the options a launch chooses (R30, R33, R126), and the two values the spec leaves open (R143; 93 I7). -/

namespace Sys2Proof

/-- `PLANES`: one plane per bit of a 4-bit colour index (R8). -/
abbrev Config.planes : Nat := 4

/-- `TILE`: the side of a tile cell in pixels (R8). -/
abbrev Config.tileSide : Nat := 8

/-- `SPRITE`: the side of a sprite or metatile cell in pixels (R8). -/
abbrev Config.spriteSide : Nat := 16

/-- The sprite accumulators that reach the output: 4 planes × 16 rows (R8; 90_conflicts C2). -/
abbrev Config.spriteWords : Nat := 64

/-- The planar accumulators of a tile, one per byte of its block (R28). -/
abbrev Config.tileBytes : Nat := 32

/-- `cell_layout` (R3, R30). -/
inductive Layout where
  | sprite16
  | tile8
  | tile16Meta
deriving DecidableEq, Repr

/-- The colour-mode flag (R33): indexed colour at 8 bits, or every other mode. -/
inductive ColourMode where
  | indexed8
  | other
deriving DecidableEq, Repr

/-- The two output streams (R24, R25). -/
inductive Stream where
  | planar
  | linear
deriving DecidableEq, Repr, Inhabited

/-- ConversionConfig, "Immutable for the run" (R30). -/
structure ConversionConfig where
  layout : Layout
  emitLinear : Bool
deriving DecidableEq, Repr

/-- The command line's options that reach the run (R126). `--filein` is represented by what the
PixelSource makes of it (`Image`, log 16). -/
structure CommandLine where
  type : Layout
  fileOut : Option String
  emitLinear : Bool
  silence : Bool
deriving DecidableEq, Repr

/-- An output file's name: `base`, the suffix of the layout, `.bin` (R139). Kept in parts; the text
is `FileName.text` (Machine/Driver.lean). -/
structure FileName where
  base : String
  layout : Layout
deriving DecidableEq, Repr

/-- `NAME_COLLISION_RESULT ∈ {PLANAR, LINEAR}` (R143, D17): which stream the one file holds when
`--fileout` and `--linear` are both given. A parameter with no value: log 13. -/
opaque Config.nameCollisionResult : Stream

/-- What stands under an output file's name after an IOError: nothing, or a file with some content.
93 I7: "`any value` for the presence and content of the file written before the error". A free
value, a fresh one for each value of the counter `State.freeCount`: log 14. -/
opaque Config.ioErrorRemnant : Nat → FileName → Option (List Byte)

end Sys2Proof
end

