-- ==== Sys2Proof/Syntax.lean ====
section
/-! DEFINITION. Commands as the host hands them over (R58) and the three operations (R59, opcode_table.json), with their assembler text (R63). -/

namespace Sys2Proof

/-- A command: "one record of three fields, handed to the block by the host in one step" (R58).
The mode word has no other bits than `mode`. -/
structure Command where
  mode : BitVec 2
  colOff : Nat
  rowOff : Nat
deriving DecidableEq, Repr

/-- The operations, one constructor per row of opcode_table.json. `colOff` and `rowOff` are unbounded
naturals (R61), column first as in the syntax of R63. -/
inductive Instr where
  | encSprite16 (colOff rowOff : Nat)
  | encTile8 (colOff rowOff : Nat)
  | encMeta16 (colOff rowOff : Nat)
deriving DecidableEq, Repr

/-- The operation's mnemonic (R59). -/
def Instr.mnemonic : Instr → String
  | .encSprite16 _ _ => "ENC_SPRITE16"
  | .encTile8 _ _ => "ENC_TILE8"
  | .encMeta16 _ _ => "ENC_META16"

/-- `COL_OFF` of an operation (R58, operand 1). -/
def Instr.colOff : Instr → Nat
  | .encSprite16 c _ | .encTile8 c _ | .encMeta16 c _ => c

/-- `ROW_OFF` of an operation (R58, operand 2). -/
def Instr.rowOff : Instr → Nat
  | .encSprite16 _ r | .encTile8 _ r | .encMeta16 _ r => r

/-- The assembler text `MNEMONIC <col_off>, <row_off>` with decimal naturals (R63). -/
def Instr.asm (i : Instr) : String :=
  i.mnemonic ++ " " ++ toString i.colOff ++ ", " ++ toString i.rowOff

end Sys2Proof
end

