-- ==== Sys2Proof/WellFormed.lean ====
section
/-! DEFINITION. Which commands and operations are well formed (R22, R62). -/

namespace Sys2Proof

/-- The legal values of `MODE` are 0, 1 and 2; 3 is reserved (R22, R60). "Every natural is a
well-formed `COL_OFF` or `ROW_OFF`" (R62). -/
def Command.wf (c : Command) : Bool :=
  c.mode != 3#2

/-- Every operation is well formed: its operands are naturals, and "whether its window fits the grid
is a check of execution, not of decoding" (R62). -/
def Instr.wf : Instr → Bool
  | .encSprite16 _ _ => true
  | .encTile8 _ _ => true
  | .encMeta16 _ _ => true

end Sys2Proof
end

