-- ==== Sys2Proof/Decode.lean ====
section
/-! DEFINITION. Decoding a command (R59, R60, R62), the encoder, the MODE of a layout, and the reading of a table word. -/

namespace Sys2Proof

/-- What a command decodes to: one of the three operations, or the reserved verdict of R60. -/
inductive Decoded where
  | operation (i : Instr)
  | reserved
deriving DecidableEq, Repr

/-- "Decoding is total: every value of `MODE` decodes, to one of the three operations or to the
reserved verdict" (R62), by the table of R59. -/
def decode (c : Command) : Decoded :=
  if c.mode = 0b00#2 then .operation (.encSprite16 c.colOff c.rowOff)
  else if c.mode = 0b01#2 then .operation (.encTile8 c.colOff c.rowOff)
  else if c.mode = 0b10#2 then .operation (.encMeta16 c.colOff c.rowOff)
  else .reserved

/-- The command that hands over an operation (R58, R59). -/
def encode : Instr → Command
  | .encSprite16 c r => { mode := 0b00#2, colOff := c, rowOff := r }
  | .encTile8 c r => { mode := 0b01#2, colOff := c, rowOff := r }
  | .encMeta16 c r => { mode := 0b10#2, colOff := c, rowOff := r }

/-- The `MODE` a layout names: {Sprite: 00, tile_8x8: 01, tile_16x16: 10} (R59, R119). -/
def Layout.mode : Layout → BitVec 2
  | .sprite16 => 0b00#2
  | .tile8 => 0b01#2
  | .tile16Meta => 0b10#2

/-- The command whose mode word is `w`, read as opcode_table.json numbers its bits, with both
operands zero. The mode word is bits [1:0] and has no other bits (R58), so the padding of a whole
byte is not read; offsets are unbounded naturals with no bits in the table. DESIGN CHOICE: log 1. -/
def commandOfWord (nbits w : Nat) : Command :=
  { mode := BitVec.ofNat 2 (w % 2 ^ nbits), colOff := 0, rowOff := 0 }

/-- The operation the decoder reads from a table word; none for the reserved `MODE` (R60, R75). -/
def decodeTableWord (nbits w : Nat) : Option Instr :=
  match decode (commandOfWord nbits w) with
  | .operation i => some i
  | .reserved => none

end Sys2Proof
end

