-- ==== Sys2Proof/Machine/State.lean ====
section
/-! DEFINITION. The state of block and host (10_state.md R20 to R34), the reasons a step or an observation stops, and the state right after reset (R151). -/

namespace Sys2Proof.Machine

/-- The cells of the PIXEL space by flat row-major index (R41), in one canonical form: indices
strictly rising, no cell equal to `Memory.unlisted`. -/
abbrev Memory := List Host.Cell

/-- What an unlisted cell reads as. The grid has a value at every (row, col) of its size (R21); the
list leaves the zero entries out (log 7). -/
def Memory.unlisted : Byte := 0#8

/-- The canonical form of a memory. -/
def Memory.wf : Memory → Bool
  | [] => true
  | [c] => c.2 != Memory.unlisted
  | c :: d :: rest => c.2 != Memory.unlisted && decide (c.1 < d.1) && Memory.wf (d :: rest)

/-- PixelGrid: `W × H` entries of 8 bits, row-major, origin top-left (R21). -/
structure Grid where
  width : Nat
  height : Nat
  cells : Memory
deriving DecidableEq, Repr

/-- A grid's cells are in canonical form and lie inside its `W × H` entries. -/
def Grid.wf (g : Grid) : Bool :=
  Memory.wf g.cells && g.cells.all fun c => decide (c.1 < g.width * g.height)

/-- What the PixelSource delivers: the grid with its size and the colour-mode flag (R21, R33). -/
structure Image where
  grid : Grid
  colourMode : ColourMode
deriving DecidableEq, Repr

/-- Which commands the host issues in a run: those of CONVERT (R119), or a sequence of its own
("A host that issues commands itself (not through CONVERT)", R120), oldest first. -/
inductive HostProgram where
  | convert
  | direct (commands : List Command)
deriving DecidableEq, Repr

/-- One run asked for by the outside world (R154): what decoding the image file gives (none: the
"underlying image file cannot be opened/decoded", R134), the options (R126), the host's program, and
whether each output file can be written (R134, IOError). -/
structure Launch where
  image : Option Image
  commandLine : CommandLine
  program : HostProgram
  planarWritable : Bool
  linearWritable : Bool
deriving DecidableEq, Repr

/-- Where the host stands in the list of R154; `idle` is the wait of R152, `ended` the end of a run
(R164). -/
inductive Phase where
  | idle
  | decode
  | colourCheck
  | configure
  | resetBlock
  | commands
  | write
  | ended
deriving DecidableEq, Repr

/-- The errors a run can end with (R134). `blockFault` carries `FAULT_CODE`: 1 is ILLEGAL_MODE, 2 is
WINDOW_OOB (R130). -/
inductive RunError where
  | imageDecodeError
  | unsupportedImageMode
  | blockFault (code : BitVec 2)
  | ioError
deriving DecidableEq, Repr

/-- An output file: "a flat concatenation of per-cell … byte blocks", nothing added (R73). -/
structure OutFile where
  name : FileName
  bytes : List Byte
deriving DecidableEq, Repr

/-- The causes of a block fault (R130). -/
inductive FaultCause where
  | illegalMode
  | windowOob
deriving DecidableEq, Repr

/-- The state of the whole system. The first ten fields are the block's (R31 and the grid), the rest
the host's, but for `freeCount`, which is the model's own (log 14). -/
structure State where
  /-- PixelGrid with `W` and `H` (R21). -/
  grid : Grid
  /-- `MODE` (R22). -/
  mode : BitVec 2
  /-- `COL_OFF` (R22). -/
  colOff : Nat
  /-- `ROW_OFF` (R22). -/
  rowOff : Nat
  /-- Whether a command of this run has given the three operand registers a value (R22, R151). -/
  operandsHeld : Bool
  /-- PLANAR (R24). -/
  planar : List Byte
  /-- LINEAR (R25). -/
  linear : List Byte
  /-- `FAULT_VALID` (R27). -/
  faultValid : Bool
  /-- `FAULT_CODE` (R27). -/
  faultCode : BitVec 2
  /-- The colour-mode flag (R33). -/
  colourMode : ColourMode
  /-- ConversionConfig (R30). -/
  config : ConversionConfig
  /-- The walker's `row_off` (R118). -/
  walkRow : Nat
  /-- The walker's `col_off` (R118). -/
  walkCol : Nat
  /-- Where the host stands (R154). -/
  phase : Phase
  /-- The commands the host has still to issue (R119, R120). -/
  program : HostProgram
  /-- The run's command line (R126). -/
  commandLine : CommandLine
  /-- What the PixelSource delivers for this run (R21, R33, R134). -/
  image : Option Image
  /-- Whether the planar file can be written (R134). -/
  planarWritable : Bool
  /-- Whether the linear file can be written (R134). -/
  linearWritable : Bool
  /-- The error the run ended with (R134). -/
  error : Option RunError
  /-- The exit status, once the run has ended (R142). -/
  exitStatus : Option Nat
  /-- The files this run has written (R140). -/
  files : List OutFile
  /-- The runs asked for and not begun, oldest first (R153, R154). -/
  launches : List Launch
  /-- Picks a fresh free value after an IOError (log 14). -/
  freeCount : Nat
deriving DecidableEq, Repr

/-- Why the machine stops with a fault. -/
inductive Fault where
  /-- Raised by a window read that meets an entry outside the grid: `Pix` is defined exactly for
  `0 ≤ row < H` and `0 ≤ col < W` (R21). Safe: no command reaches it, since R132 is checked first. -/
  | pixelOutsideGrid
deriving DecidableEq, Repr

/-- Why a step or one of the host's observations is refused. -/
inductive Refusal where
  /-- Raised by an arm of `exec` whose instruction has no meaning yet. Safe. No arm raises it. -/
  | notModelled (mnemonic : String)
  /-- Raised by the host's read of a stream at or past its length: "has no value and is refused"
  (R26). Safe. No step raises it. -/
  | streamReadPastEnd
  /-- Raised by the host's read of MODE, COL_OFF or ROW_OFF before the first command of a run: "they
  hold no value", `refuse` (93 I13, by R22, R151 and D14). Safe. No command and no step raises it. -/
  | operandHasNoValue
deriving DecidableEq, Repr

/-- The machine right after reset (R151): streams empty, latch clear, cursor at (0, 0), the block
"idle and waits for the host's first command" (R152). What the launch supplies (grid, colour mode,
options, image, program) is absent: the empty grid and the values log 6 names; the operand registers
hold no value, which is `operandsHeld = false` with zeros in the registers (log 2). -/
def State.reset : State where
  grid := { width := 0, height := 0, cells := [] }
  mode := 0#2
  colOff := 0
  rowOff := 0
  operandsHeld := false
  planar := []
  linear := []
  faultValid := false
  faultCode := 0#2
  colourMode := .other
  config := { layout := .sprite16, emitLinear := false }
  walkRow := 0
  walkCol := 0
  phase := .idle
  program := .direct []
  commandLine := { type := .sprite16, fileOut := none, emitLinear := false, silence := false }
  image := none
  planarWritable := true
  linearWritable := true
  error := none
  exitStatus := none
  files := []
  launches := []
  freeCount := 0

end Sys2Proof.Machine
end

