-- ==== Sys2Proof/Machine/Ops.lean ====
section
/-! DEFINITION. The named operations over the grid's memory, the operand registers, the streams and the fault latch, fault entry among them (R137). -/

namespace Sys2Proof.Machine

/-- The cell at flat index `a`. -/
def Memory.read : Memory → Nat → Byte
  | [], _ => Memory.unlisted
  | c :: rest, a => if c.1 = a then c.2 else Memory.read rest a

/-- `m` with `v` at flat index `a`, in canonical form: writing `Memory.unlisted` takes the cell out. -/
def Memory.write : Memory → Nat → Byte → Memory
  | [], a, v => if v = Memory.unlisted then [] else [(a, v)]
  | c :: rest, a, v =>
    if c.1 < a then c :: Memory.write rest a v
    else
      let tail := if c.1 = a then rest else c :: rest
      if v = Memory.unlisted then tail else (a, v) :: tail

/-- The grid with entry `v` at (row, col), row-major (R41). How an image is put together before a run;
no step of the block or of the host's run does it ("The block has no way to write the grid", R21;
R156). -/
def Grid.place (g : Grid) (row col : Nat) (v : Byte) : Grid :=
  { g with cells := Memory.write g.cells (row * g.width + col) v }

/-- The `w × h` grid whose entry at (row, col) is `P row col`, row-major (R41). -/
def Grid.ofWindow (w h : Nat) (P : Nat → Nat → Byte) : Grid :=
  { width := w, height := h
    cells := (List.range (w * h)).filterMap fun a =>
      let v := P (a / w) (a % w)
      if v = Memory.unlisted then none else some (a, v) }

/-- `Pix(row, col)`: the entry at row `row`, column `col`; there is none outside the grid (R12, R21). -/
def Grid.pix (g : Grid) (row col : Nat) : Option Byte :=
  if row < g.height ∧ col < g.width then some (Memory.read g.cells (row * g.width + col)) else none

/-- The host's write of the three operand registers, "written together by the host as one command"
(R22). -/
def State.withOperands (s : State) (c : Command) : State :=
  { s with mode := c.mode, colOff := c.colOff, rowOff := c.rowOff, operandsHeld := true }

/-- What one operation appends (R72). -/
structure Blocks where
  planar : List Byte
  linear : List Byte
deriving DecidableEq, Repr

/-- `Append(PLANAR, …)` and `Append(LINEAR, …)` of one command, whole (R12, R49). -/
def State.appendBlocks (s : State) (b : Blocks) : State :=
  { s with planar := s.planar ++ b.planar, linear := s.linear ++ b.linear }

/-- The code of a fault cause (R130). -/
def FaultCause.code : FaultCause → BitVec 2
  | .illegalMode => 1#2
  | .windowOob => 2#2

/-- Fault entry, `raise Fault(code)` (R137): it sets the latch if it is clear and does nothing else.
Nothing is saved, control goes nowhere, and there is no return from a fault (R138). -/
def State.raiseFault (s : State) (cause : FaultCause) : State :=
  if s.faultValid then s else { s with faultValid := true, faultCode := cause.code }

/-- The bytes of a stream. -/
def State.stream (s : State) : Stream → List Byte
  | .planar => s.planar
  | .linear => s.linear

/-- The block's reset (R151, R154 step 4): empty streams, clear latch, operand registers without a
value, and the host's cursor at (0, 0). -/
def State.resetBlock (s : State) : State :=
  { s with
    mode := 0#2, colOff := 0, rowOff := 0, operandsHeld := false
    planar := [], linear := [], faultValid := false, faultCode := 0#2
    walkRow := 0, walkCol := 0 }

/-- The walker's cursor at (`row`, `col`) (R118). -/
def State.withCursor (s : State) (row col : Nat) : State :=
  { s with walkRow := row, walkCol := col }

/-- The host in phase `p` (R154). -/
def State.withPhase (s : State) (p : Phase) : State :=
  { s with phase := p }

/-- The host with program `p` left to issue. -/
def State.withProgram (s : State) (p : HostProgram) : State :=
  { s with program := p }

/-- The end of a run (R164), with its error, exit status and files. -/
def State.endRun (s : State) (error : Option RunError) (status : Nat) (files : List OutFile) : State :=
  { s with phase := .ended, error := error, exitStatus := some status, files := files }

end Sys2Proof.Machine
end

