-- ==== Sys2Proof/Machine/Flags.lean ====
section
/-! DEFINITION. The block has no flag or condition code (R23): its only status is the fault latch, read here as the packed FAULT register of R31. -/

namespace Sys2Proof.Machine

/-- `FAULT` as one word: `FAULT_VALID` in bit [0], `FAULT_CODE` in bits [2:1] (R31, D13). -/
def State.faultWord (s : State) : BitVec 3 :=
  s.faultCode ++ BitVec.ofBool s.faultValid

end Sys2Proof.Machine
end

