-- ==== Sys2Proof/Machine/Operands.lean ====
section
/-! DEFINITION. The one operand form of the block, a window of the grid at (ROW_OFF, COL_OFF) (R42, R61), its bounds check (R132), and the host's reads of operand registers and streams (R22, R26). -/

namespace Sys2Proof.Machine

/-- A window of the grid: `P(r, c)` (R42). Only `r, c < S` are ever read. -/
abbrev Window := Nat → Nat → Byte

/-- The window of side `side` lies inside the grid: neither `ROW_OFF + S > H` nor `COL_OFF + S > W`
(R132). -/
abbrev Grid.fits (g : Grid) (side colOff rowOff : Nat) : Prop :=
  rowOff + side ≤ g.height ∧ colOff + side ≤ g.width

/-- `P(r, c) := Pix(ROW_OFF + r, COL_OFF + c)` (R42). -/
def Grid.windowAt (g : Grid) (colOff rowOff : Nat) : Window := fun r c =>
  (g.pix (rowOff + r) (colOff + c)).getD Memory.unlisted

/-- The reading of a window: every entry of its `side × side` must exist (R21), else the read
faults. -/
def Grid.readWindow (g : Grid) (side colOff rowOff : Nat) : Except Fault Window :=
  if (List.range side).all fun r => (List.range side).all fun c =>
      (g.pix (rowOff + r) (colOff + c)).isSome
  then .ok (g.windowAt colOff rowOff)
  else .error .pixelOutsideGrid

/-- The sub-window `Q(dr, dc)(r, c) = P(dr + r, dc + c)` (R102). -/
def Window.sub (P : Window) (dc dr : Nat) : Window := fun r c => P (dr + r) (dc + c)

/-- The host's read of `MODE`: before the first command of a run it is refused, "they hold no value"
(93 I13, by R22, R151 and D14); afterwards it gives the register. No command and no step uses it. -/
def State.readMode (s : State) : Except Refusal (BitVec 2) :=
  if s.operandsHeld then .ok s.mode else .error .operandHasNoValue

/-- The host's read of `COL_OFF`: before the first command of a run it is refused, "they hold no value"
(93 I13, by R22, R151 and D14); afterwards it gives the register. No command and no step uses it. -/
def State.readColOff (s : State) : Except Refusal Nat :=
  if s.operandsHeld then .ok s.colOff else .error .operandHasNoValue

/-- The host's read of `ROW_OFF`: before the first command of a run it is refused, "they hold no value"
(93 I13, by R22, R151 and D14); afterwards it gives the register. No command and no step uses it. -/
def State.readRowOff (s : State) : Except Refusal Nat :=
  if s.operandsHeld then .ok s.rowOff else .error .operandHasNoValue

/-- The host's read of byte `i` of a stream: "exists only at an index below the stream's length"
(R26). -/
def State.readStream (s : State) (st : Stream) (i : Nat) : Except Refusal Byte :=
  match (s.stream st)[i]? with
  | some b => .ok b
  | none => .error .streamReadPastEnd

end Sys2Proof.Machine
end

