-- ==== Sys2Proof/Machine/Codec.lean ====
section
/-! DEFINITION. The bit-plane transposition: the accumulation loops of R77 and R92, the planar and linear blocks of R65 to R71. -/

namespace Sys2Proof.Machine

/-- `nib(v) = v[3:0]` (R12). -/
def nib (v : Byte) : BitVec 4 := v.extractLsb' 0 4

/-- `lo8(v) = v[7:0]` (R12). -/
def lo8 (w : SpriteWord) : Byte := w.extractLsb' 0 8

/-- `hi8(v) = v[15:8]` (R12). -/
def hi8 (w : SpriteWord) : Byte := w.extractLsb' 8 8

/-- One pair of pixels in a linear byte: `(nib(left) << 4) | nib(right)` (R69, R78, D10). -/
def packPair (left right : Byte) : Byte :=
  ((nib left).setWidth 8 <<< 4) ||| (nib right).setWidth 8

/-- "shift-left-then-OR": `((A << 1) | (v & 1))` cut to the accumulator's width (R77, R92). -/
def shiftIn {n : Nat} (a : BitVec n) (v : Byte) : BitVec n :=
  (a <<< 1) ||| (v &&& 1#8).setWidth n

/-- One pixel folded into the accumulators: for each plane, bit 0 first, shift the pixel's low bit
into accumulator `target p`, then shift the pixel right (the inner loop of R77 and R92). -/
def foldPixel {n : Nat} (target : Nat → Nat) (acc : List (BitVec n)) (v : Byte) : List (BitVec n) :=
  ((List.range Config.planes).foldl
    (fun (st : List (BitVec n) × Byte) p => (st.1.modify (target p) (shiftIn · st.2), st.2 >>> 1)) (acc, v)).1

/-- The whole window folded into the accumulators: rows top to bottom, pixels left to right (R79). -/
def accumulate {n : Nat} (side : Nat) (target : Nat → Nat → Nat) (P : Window)
    (acc : List (BitVec n)) : List (BitVec n) :=
  (List.range side).foldl (fun acc r =>
    (List.range side).foldl (fun acc c => foldPixel (target r) acc (P r c)) acc) acc

/-- The tile accumulator of row `r`, plane `p`: 2r, 2r+1, 2r+16, 2r+17 (R65, R77). -/
def tileTarget (r p : Nat) : Nat := 2 * r + p % 2 + 16 * (p / 2)

/-- `PLANAR8(P)` (R77). -/
def planar8 (P : Window) : List Byte :=
  accumulate Config.tileSide tileTarget P (List.replicate Config.tileBytes 0#8)

/-- `LINEAR8(P)` (R78). -/
def linear8 (P : Window) : List Byte :=
  (List.range 8).flatMap fun r => (List.range 4).map fun q => packPair (P r (2 * q)) (P r (2 * q + 1))

/-- The sprite accumulator of row `r`, plane `p`: row, row+16, row+32, row+48 (R67, R92). -/
def spriteTarget (r p : Nat) : Nat := r + 16 * p

/-- `SPRITE_WORDS(P)` (R92). -/
def spriteWords (P : Window) : List SpriteWord :=
  accumulate Config.spriteSide spriteTarget P (List.replicate Config.spriteWords 0#16)

/-- `PLANAR16(P)`: each word low byte, then high byte (R93). -/
def planar16 (P : Window) : List Byte :=
  (spriteWords P).flatMap fun w => [lo8 w, hi8 w]

/-- `LINEAR16(P)` (R94). -/
def linear16 (P : Window) : List Byte :=
  (List.range 16).flatMap fun r => (List.range 8).map fun q => packPair (P r (2 * q)) (P r (2 * q + 1))

/-- The sub-cell table as (`dc`, `dr`): top-left, top-right, bottom-left, bottom-right (R106). -/
def subCells : List (Nat × Nat) := [(0, 0), (8, 0), (0, 8), (8, 8)]

/-- The metatile planar block: four tile planar blocks in the order of R106 (R107). -/
def metaPlanar (P : Window) : List Byte :=
  subCells.flatMap fun q => planar8 (P.sub q.1 q.2)

/-- The metatile linear block: four tile linear blocks in the order of R106 (R108). -/
def metaLinear (P : Window) : List Byte :=
  subCells.flatMap fun q => linear8 (P.sub q.1 q.2)

/-- What ENC_TILE8 appends (R76). -/
def tileBlocks (P : Window) : Blocks := { planar := planar8 P, linear := linear8 P }

/-- What ENC_SPRITE16 appends (R91). -/
def spriteBlocks (P : Window) : Blocks := { planar := planar16 P, linear := linear16 P }

/-- What ENC_META16 appends (R105). -/
def metaBlocks (P : Window) : Blocks := { planar := metaPlanar P, linear := metaLinear P }

end Sys2Proof.Machine
end

