-- ==== Sys2Proof/Machine/Perform.lean ====
section
/-! DEFINITION. The frame every command shares: not performed while the latch is set (R137), operands written (R22), window checked (R132), window read, blocks appended (R49); and the reserved command (R131). -/

namespace Sys2Proof.Machine

/-- One command of window side `side` that appends `blocks P` (R76, R91, R105). -/
def perform (c : Command) (side : Nat) (blocks : Window → Blocks) (s : State) :
    Host.Outcome State Fault Refusal :=
  if s.faultValid then .next s
  else if s.grid.fits side c.colOff c.rowOff then
    match s.grid.readWindow side c.colOff c.rowOff with
    | .ok P => .next ((s.withOperands c).appendBlocks (blocks P))
    | .error f => .fault f
  else .next ((s.withOperands c).raiseFault .windowOob)

/-- A command with `MODE = 11`: `ILLEGAL_MODE` "before any pixel read and whatever its offsets"
(R131); "a `MODE` of 3 is kept as written" (R31); not performed while the latch is set (R137). -/
def performReserved (c : Command) (s : State) : State :=
  if s.faultValid then s else (s.withOperands c).raiseFault .illegalMode

end Sys2Proof.Machine
end

