-- ==== Sys2Proof/Machine/Metatile.lean ====
section
/-! DEFINITION. The meaning of ENC_META16 (42_metatile16.md). -/

namespace Sys2Proof.Machine

/-- ENC_META16 (R105). Its 16×16 window is checked whole before any quarter is encoded (D12). -/
def execEncMeta16 (colOff rowOff : Nat) (s : State) : Host.Outcome State Fault Refusal :=
  perform (encode (.encMeta16 colOff rowOff)) Config.spriteSide metaBlocks s

end Sys2Proof.Machine
end

