-- ==== Sys2Proof/Machine/Sprite.lean ====
section
/-! DEFINITION. The meaning of ENC_SPRITE16 (41_sprite16.md). -/

namespace Sys2Proof.Machine

/-- ENC_SPRITE16 (R91). -/
def execEncSprite16 (colOff rowOff : Nat) (s : State) : Host.Outcome State Fault Refusal :=
  perform (encode (.encSprite16 colOff rowOff)) Config.spriteSide spriteBlocks s

end Sys2Proof.Machine
end

