-- ==== Sys2Proof/Machine/Tile.lean ====
section
/-! DEFINITION. The meaning of ENC_TILE8 (40_tile8.md). -/

namespace Sys2Proof.Machine

/-- ENC_TILE8 (R76). -/
def execEncTile8 (colOff rowOff : Nat) (s : State) : Host.Outcome State Fault Refusal :=
  perform (encode (.encTile8 colOff rowOff)) Config.tileSide tileBlocks s

end Sys2Proof.Machine
end

