-- ==== Sys2Proof/Machine/Dispatch.lean ====
section
/-! DEFINITION. One arm per operation of opcode_table.json (R59). -/

namespace Sys2Proof.Machine

def exec (i : Instr) (s : State) : Host.Outcome State Fault Refusal :=
  match i with
  | .encSprite16 colOff rowOff => Sys2Proof.Machine.execEncSprite16 colOff rowOff s
  | .encTile8 colOff rowOff => Sys2Proof.Machine.execEncTile8 colOff rowOff s
  | .encMeta16 colOff rowOff => Sys2Proof.Machine.execEncMeta16 colOff rowOff s

end Sys2Proof.Machine
end

