-- ==== Sys2Proof/Machine/Walker.lean ====
section
/-! DEFINITION. The host's issuing of commands: one command handed to the block (R58), the ImageWalker of CONVERT (R114 to R119), and a host that issues commands itself (R120). -/

namespace Sys2Proof.Machine

/-- `f` applied to the next state, stops passed on. -/
def thenNext (o : Host.Outcome State Fault Refusal) (f : State → State) :
    Host.Outcome State Fault Refusal :=
  match o with
  | .next s => .next (f s)
  | .fault e => .fault e
  | .refused e => .refused e

/-- The host hands a command to the block, which decodes and executes it (R58, R62). -/
def issue (c : Command) (s : State) : Host.Outcome State Fault Refusal :=
  match decode c with
  | .operation i => exec i s
  | .reserved => .next (performReserved c s)

/-- The cell size of a layout (R114). -/
def Layout.cellSize : Layout → Nat
  | .sprite16 => 16
  | .tile8 => 8
  | .tile16Meta => 16

/-- The planar block size `PB` of a layout, which is also its linear block size `LB` (R72, R117). -/
def Layout.blockSize : Layout → Nat
  | .sprite16 => 128
  | .tile8 => 32
  | .tile16Meta => 128

/-- The blocks a layout's operation appends for a window (R59, R76, R91, R105). -/
def Layout.blocks : Layout → Window → Blocks
  | .sprite16 => spriteBlocks
  | .tile8 => tileBlocks
  | .tile16Meta => metaBlocks

/-- The truncated extent `⌊n / size⌋ × size` of a grid dimension (R115). -/
def truncated (n size : Nat) : Nat := n / size * size

/-- The cursor after a command: `col_off` advances by `size`; on `col_off = w` it goes back to 0 and
`row_off` advances by `size` (R118). -/
def State.advanceCursor (s : State) (size w : Nat) : State :=
  if s.walkCol + size < w then s.withCursor s.walkRow (s.walkCol + size)
  else s.withCursor (s.walkRow + size) 0

/-- The command CONVERT issues at the cursor (R119). -/
def State.walkCommand (s : State) : Command :=
  { mode := Layout.mode s.config.layout, colOff := s.walkCol, rowOff := s.walkRow }

/-- One round of CONVERT's walk (R119): a command at the cursor, after which the walk stops if the
latch is set; or, where the inner loop has nothing to do (`w = 0`), the next row offset with no
command (log 17); or the end of the walk, `row_off = h`. -/
def walkStep (s : State) : Host.Outcome State Fault Refusal :=
  let size := Layout.cellSize s.config.layout
  let w := truncated s.grid.width size
  if s.walkRow < truncated s.grid.height size then
    if s.walkCol < w then
      thenNext (issue s.walkCommand s) fun t =>
        if t.faultValid then t.withPhase .write else t.advanceCursor size w
    else .next (s.withCursor (s.walkRow + size) 0)
  else .next (s.withPhase .write)

/-- One round of the host's issuing: CONVERT's walk, or the next command of a host that issues
commands itself, which goes on after a fault (95 P5) and ends with its last command (log 12). -/
def commandStep (s : State) : Host.Outcome State Fault Refusal :=
  match s.program with
  | .convert => walkStep s
  | .direct [] => .next (s.withPhase .write)
  | .direct (c :: rest) => issue c (s.withProgram (.direct rest))

/-- The cells of rows `from .. from + n - 1` of cell-rows, row-major, as (`row_off`, `col_off`)
(R118, R121): `cw` cells to a cell-row. -/
def cellRows (size cw start n : Nat) : List (Nat × Nat) :=
  (List.range n).flatMap fun i => (List.range cw).map fun j => ((start + i) * size, j * size)

/-- The blocks of a list of cells of a grid, in that order, as the two streams they make (R53). -/
def encodeCells (layout : Layout) (g : Grid) (cells : List (Nat × Nat)) : Blocks :=
  { planar := cells.flatMap fun c => (Layout.blocks layout (g.windowAt c.2 c.1)).planar
    linear := cells.flatMap fun c => (Layout.blocks layout (g.windowAt c.2 c.1)).linear }

/-- The cells of a run, row-major over the truncated extent (R116, R118, R121). -/
def runCells (layout : Layout) (g : Grid) : List (Nat × Nat) :=
  let size := Layout.cellSize layout
  cellRows size (g.width / size) 0 (g.height / size)

/-- The streams of the sequential walker (R53, R119), which a parallel host has to equal (R54). -/
def walkBlocks (layout : Layout) (g : Grid) : Blocks :=
  encodeCells layout g (runCells layout g)

end Sys2Proof.Machine
end

