-- ==== Sys2Proof/Machine/Driver.lean ====
section
/-! DEFINITION. The host's Driver: the boot list of R154, the colour-mode check (R133), the output files (R139 to R143), the end of a run (R164), and the host's names (R64, R126, R139). -/

namespace Sys2Proof.Machine

/-- The CLI name of a layout, `<type>` of CONVERT (R59, R64, R126). -/
def Layout.cliName : Layout → String
  | .sprite16 => "Sprite"
  | .tile8 => "tile_8x8"
  | .tile16Meta => "tile_16x16"

/-- The layout a CLI name selects (R59, R126). -/
def Layout.ofCliName (name : String) : Option Layout :=
  if name = "Sprite" then some .sprite16
  else if name = "tile_8x8" then some .tile8
  else if name = "tile_16x16" then some .tile16Meta
  else none

/-- The pseudo-operation's text, `CONVERT <type>` (R64). -/
def Layout.convertAsm (l : Layout) : String := "CONVERT " ++ Layout.cliName l

/-- The file suffix of a layout (R139). -/
def Layout.suffix : Layout → String
  | .sprite16 => "_spr16"
  | .tile8 => "_tle8"
  | .tile16Meta => "_tle16"

/-- The default base name of a stream's file (R126, R139). -/
def Stream.defaultBase : Stream → String
  | .planar => "planar"
  | .linear => "linear"

/-- The text of a file name: base, suffix, `.bin` (R139). -/
def FileName.text (n : FileName) : String := n.base ++ Layout.suffix n.layout ++ ".bin"

/-- The name of a stream's file: `--fileout` if given, else the stream's default (R139). -/
def State.fileName (s : State) (st : Stream) : FileName :=
  { base := s.commandLine.fileOut.getD (Stream.defaultBase st), layout := s.config.layout }

/-- The streams the host writes to files: PLANAR, and LINEAR if `emit_linear` (R140). -/
def State.writtenStreams (s : State) : List Stream :=
  if s.config.emitLinear then [.planar, .linear] else [.planar]

/-- Whether a stream's file can be written (R134, IOError; log 15). -/
def State.writable (s : State) : Stream → Bool
  | .planar => s.planarWritable
  | .linear => s.linearWritable

/-- The files of a successful run: each written stream under its name (R140), or the one file of R143
when `--fileout` and `--linear` are both given. -/
def State.outputFiles (s : State) : List OutFile :=
  if s.commandLine.fileOut.isSome ∧ s.config.emitLinear then
    [{ name := s.fileName .planar, bytes := s.stream Config.nameCollisionResult }]
  else s.writtenStreams.map fun st => { name := s.fileName st, bytes := s.stream st }

/-- What stands under the run's file names after an IOError: free values, one for each name
(93 I7; log 14). -/
def State.remnantFiles (s : State) : List OutFile :=
  (s.writtenStreams.map s.fileName).eraseDups.filterMap fun n =>
    (Config.ioErrorRemnant s.freeCount n).map fun bytes => { name := n, bytes := bytes }

/-- The beginning of a run: nothing of the run before it is left (R34, R153), the launch's inputs are
in place, and the host stands at the first step of R154. -/
def State.beginRun (s : State) (l : Launch) (rest : List Launch) : State :=
  { State.reset with
    phase := .decode
    image := l.image
    commandLine := l.commandLine
    program := l.program
    planarWritable := l.planarWritable
    linearWritable := l.linearWritable
    launches := rest
    freeCount := s.freeCount }

/-- Between runs: the next run asked for begins; with none the block waits (R152; log 9). -/
def waitStep (s : State) : State :=
  match s.launches with
  | [] => s
  | l :: rest => s.beginRun l rest

/-- R154 step 1: the grid, `W`, `H` and the colour-mode flag, or `ImageDecodeError` (R134). -/
def decodeStep (s : State) : State :=
  match s.image with
  | none => s.endRun (some .imageDecodeError) 1 []
  | some im => { s with grid := im.grid, colourMode := im.colourMode, phase := .colourCheck }

/-- R154 step 2: a mode other than `INDEXED8` ends the run (R133). -/
def colourCheckStep (s : State) : State :=
  if s.colourMode = .indexed8 then s.withPhase .configure
  else s.endRun (some .unsupportedImageMode) 1 []

/-- R154 step 3: ConversionConfig from the command line (R30, R126). -/
def configureStep (s : State) : State :=
  { s with
    config := { layout := s.commandLine.type, emitLinear := s.commandLine.emitLinear }
    phase := .resetBlock }

/-- R154 step 6: a set latch ends the run with no file (R141); a file that cannot be written with
`IOError` (R134); else the files are written and the run succeeds (R140, R142). -/
def writeStep (s : State) : State :=
  if s.faultValid then s.endRun (some (.blockFault s.faultCode)) 1 []
  else if s.writtenStreams.all s.writable then s.endRun none 0 s.outputFiles
  else { s.endRun (some .ioError) 1 s.remnantFiles with freeCount := s.freeCount + 1 }

/-- One step of the system: the host's next step of R154, which in the phase `commands` hands the
block its next command. -/
def systemStep (s : State) : Host.Outcome State Fault Refusal :=
  match s.phase with
  | .idle => .next (waitStep s)
  | .decode => .next (decodeStep s)
  | .colourCheck => .next (colourCheckStep s)
  | .configure => .next (configureStep s)
  | .resetBlock => .next (s.resetBlock.withPhase .commands)
  | .commands => commandStep s
  | .write => .next (writeStep s)
  | .ended => .next (waitStep s)

/-- The host about to hand the block one command of its own, and no other. -/
def State.withCommand (s : State) (c : Command) : State :=
  { s with phase := .commands, program := .direct [c] }

/-- A run's result: the latch and the two streams, with the host's exit status and files (R164). -/
structure RunResult where
  fault : BitVec 3
  planar : List Byte
  linear : List Byte
  exitStatus : Option Nat
  files : List OutFile
deriving DecidableEq, Repr

/-- The result a state shows (R164). -/
def State.result (s : State) : RunResult :=
  { fault := s.faultWord, planar := s.planar, linear := s.linear
    exitStatus := s.exitStatus, files := s.files }

end Sys2Proof.Machine
end

