-- ==== Sys2Proof/Machine/Step.lean ====
section
/-! DEFINITION. One step of the machine, and a command placed where the next step takes it. -/

namespace Sys2Proof.Machine

/-- One step: block and host as 70_reset_and_hazards R154 orders them. -/
def step (s : State) : Host.Outcome State Fault Refusal := systemStep s

/-- `s` with the command of table word `w` as the host's next and only command. The block fetches
nothing (R29): "the host hands it one command at a time" (log 9). -/
def State.withFetchWord (s : State) (nbits w : Nat) : State :=
  s.withCommand (commandOfWord nbits w)

end Sys2Proof.Machine
end

