-- ==== Sys2Proof/Safety.lean ====
section
/-! DEFINITION. What holds of every state of a run, what a conforming parallel host is (R54), and what it means that a step keeps a property. -/

namespace Sys2Proof.Safety

open Sys2Proof.Machine

/-- The outcome is a next state with property `Q`. -/
def NextWith (o : Host.Outcome State Fault Refusal) (Q : State → Prop) : Prop :=
  ∃ t, o = .next t ∧ Q t

/-- Every step from a state with property `Inv` leads to a next state with it. -/
def StepKeeps (Inv : State → Prop) : Prop :=
  ∀ s, Inv s → NextWith (step s) Inv

/-- The fault latch holds a code that R27 allows: 0 while it is clear, 1 or 2 once it is set. -/
def LatchLegal (s : State) : Prop :=
  (s.faultValid = false → s.faultCode = 0#2) ∧
  (s.faultValid = true → s.faultCode = 1#2 ∨ s.faultCode = 2#2)

/-- The streams have grown by whole blocks: equal lengths, a multiple of the smallest block (R26, R49,
R72). -/
def StreamsWhole (s : State) : Prop :=
  s.planar.length = s.linear.length ∧ s.planar.length % 32 = 0

/-- The grid in place, the image to come and the images of pending launches are in canonical form and
hold no entry outside their size (R21). -/
def GridsWf (s : State) : Prop :=
  s.grid.wf = true ∧ (∀ im, s.image = some im → im.grid.wf = true) ∧
  ∀ l ∈ s.launches, ∀ im, l.image = some im → im.grid.wf = true

/-- A run has an exit status exactly when it has ended, files only then, and a successful run has a
clear latch and no error (R141, R142). -/
def EndingLegal (s : State) : Prop :=
  (s.exitStatus.isSome ↔ s.phase = .ended) ∧
  (s.phase ≠ .ended → s.files = [] ∧ s.error = none) ∧
  (s.exitStatus = some 0 → s.faultValid = false ∧ s.error = none) ∧
  (∀ n, s.exitStatus = some n → n ≠ 0 → n = 1 ∧ s.error.isSome)

/-- The state invariant. -/
def Inv (s : State) : Prop :=
  LatchLegal s ∧ StreamsWhole s ∧ GridsWf s ∧ EndingLegal s

/-- The cells already visited by a walk whose cursor stands at (`walkRow`, `walkCol`) (R122). -/
def visited (s : State) : Nat :=
  let size := Layout.cellSize s.config.layout
  s.walkRow / size * (s.grid.width / size) + s.walkCol / size

/-- During CONVERT's walk: no fault, the cursor a multiple of the cell size inside the extent, and the
streams exactly the blocks of the cells visited so far (R117, R120, R122). -/
def WalkInv (s : State) : Prop :=
  s.program = .convert → s.phase = .commands →
    let size := Layout.cellSize s.config.layout
    s.faultValid = false ∧ s.walkRow % size = 0 ∧ s.walkCol % size = 0 ∧
    s.walkRow ≤ truncated s.grid.height size ∧
    (s.walkCol < truncated s.grid.width size ∨ s.walkCol = 0) ∧
    { planar := s.planar, linear := s.linear } =
      encodeCells s.config.layout s.grid ((runCells s.config.layout s.grid).take (visited s))

/-- After CONVERT's walk, and at the end of a run whose image could be used: no fault, and the streams
are those of the whole walk (R119, R120). -/
def WalkDone (s : State) : Prop :=
  s.program = .convert →
    s.phase = .write ∨ (s.phase = .ended ∧ (s.error = none ∨ s.error = some .ioError)) →
    s.faultValid = false ∧
    { planar := s.planar, linear := s.linear } = walkBlocks s.config.layout s.grid

/-- A parallel host is conforming exactly when its final streams are those of the sequential walker
(R54, R124). -/
def ConformingStreams (layout : Layout) (g : Grid) (final : Blocks) : Prop :=
  final = walkBlocks layout g

end Sys2Proof.Safety
end

