-- ==== Sys2Proof/Certificates/Slice0/Obligations.lean ====
section
/-! DEFINITION. The statements for the provers, from the numbered rules of spec/. Where a docstring names a decision D<n> of 92_eei_decisions or a log entry, the clause is the spec's own choice or the model's, and the statement holds for that choice. -/

open Sys2Proof Sys2Proof.Machine Sys2Proof.Safety

/-! ### Encoding -/

/-- R59: the table of `MODE`, with each layout's CLI name, window side and `MODE` (values: D4). -/
def Obligations.ModeTableSelectsOperation : Prop :=
  (∀ c r, decode ⟨0b00#2, c, r⟩ = .operation (.encSprite16 c r)) ∧
  (∀ c r, decode ⟨0b01#2, c, r⟩ = .operation (.encTile8 c r)) ∧
  (∀ c r, decode ⟨0b10#2, c, r⟩ = .operation (.encMeta16 c r)) ∧
  (∀ c r, decode ⟨0b11#2, c, r⟩ = .reserved) ∧
  (Sys2Proof.Layout.mode .sprite16 = 0b00#2 ∧ Layout.cliName .sprite16 = "Sprite" ∧
    Layout.cellSize .sprite16 = 16) ∧
  (Sys2Proof.Layout.mode .tile8 = 0b01#2 ∧ Layout.cliName .tile8 = "tile_8x8" ∧
    Layout.cellSize .tile8 = 8) ∧
  (Sys2Proof.Layout.mode .tile16Meta = 0b10#2 ∧ Layout.cliName .tile16Meta = "tile_16x16" ∧
    Layout.cellSize .tile16Meta = 16)

/-- R62: decoding is total and loses nothing: every operation is read back from its command, every
command is the command of the operation it decodes to, and only `MODE = 11` is reserved. -/
def Obligations.DecodeAndEncodeAgree : Prop :=
  (∀ i, decode (encode i) = .operation i) ∧
  (∀ c i, decode c = .operation i → encode i = c) ∧
  (∀ c, decode c = .reserved ↔ c.mode = 0b11#2)

/-- opcode_table.json's three words and the reserved one, both operands zero (log 1). -/
def Obligations.TableWordsDecode : Prop :=
  decodeTableWord 8 0 = some (.encSprite16 0 0) ∧ decodeTableWord 8 1 = some (.encTile8 0 0) ∧
  decodeTableWord 8 2 = some (.encMeta16 0 0) ∧ decodeTableWord 8 3 = none

/-! ### The tile functions -/

/-- R65, R66, R83: the tile planar block has 32 bytes, and the bit of plane `p`, row `r`, column `c`
(byte 2r + (p & 1) + 16(p >> 1), bit 7 − c) is bit `p` of pixel (r, c). -/
def Obligations.TilePlanarBitIsPixelBit : Prop :=
  ∀ (P : Window) (r c p : Nat), r < 8 → c < 8 → p < 4 →
    (planar8 P).length = 32 ∧
    ((planar8 P)[2 * r + p % 2 + 16 * (p / 2)]?).map (·.getLsbD (7 - c)) =
      some ((nib (P r c)).getLsbD p)

/-- R69, R78 and the inversion of R84: the tile linear block has 32 bytes; byte `4r + q` has the left
pixel of the pair in its high nibble and the right one in its low nibble (each index masked: D10). -/
def Obligations.TileLinearPacksPairs : Prop :=
  ∀ (P : Window) (r q : Nat), r < 8 → q < 4 →
    (linear8 P).length = 32 ∧
    ∃ b, (linear8 P)[4 * r + q]? = some b ∧
      b.extractLsb' 4 4 = nib (P r (2 * q)) ∧ b.extractLsb' 0 4 = nib (P r (2 * q + 1))

/-- R86 (the spec's own derivation): a plane byte is `FF` exactly when its bit is set in all eight
pixels of its row and `00` exactly when it is clear in all eight; a linear byte of a window filled with
`v` is `(nib(v) << 4) | nib(v)`. -/
def Obligations.TilePlaneByteExtremes : Prop :=
  (∀ (P : Window) (r p : Nat), r < 8 → p < 4 →
    ((planar8 P)[2 * r + p % 2 + 16 * (p / 2)]? = some 0xFF#8 ↔
      ∀ c, c < 8 → (nib (P r c)).getLsbD p = true) ∧
    ((planar8 P)[2 * r + p % 2 + 16 * (p / 2)]? = some 0x00#8 ↔
      ∀ c, c < 8 → (nib (P r c)).getLsbD p = false)) ∧
  (∀ v : Byte, linear8 (fun _ _ => v) = List.replicate 32 (nib v ++ nib v : BitVec 8))

/-! ### The sprite functions -/

/-- R67, R93 (words: R92): byte `2k` of the sprite planar block is the low byte of word `k`, byte `2k+1` the
high byte, and word `r + 16p` holds plane `p` of row `r`, column `c` in bit 15 − c. -/
def Obligations.SpriteWordsLowByteFirst : Prop :=
  ∀ (P : Window) (k : Nat), k < 64 →
    (planar16 P).length = 128 ∧
    ∃ w, (spriteWords P)[k]? = some w ∧
      (planar16 P)[2 * k]? = some (w.extractLsb' 0 8) ∧
      (planar16 P)[2 * k + 1]? = some (w.extractLsb' 8 8) ∧
      ∀ c, c < 16 → w.getLsbD (15 - c) = (P (k &&& 15) c).getLsbD (k >>> 4)

/-- R68 and the closed form of R100 (the spec's own derivations): even bytes hold columns 8..15, odd
bytes columns 0..7, the leftmost in bit 7. -/
def Obligations.SpritePlanarClosedForm : Prop :=
  ∀ (P : Window) (j b : Nat), j < 128 → b < 8 →
    ((planar16 P)[j]?).map (·.getLsbD b) =
      some ((P ((j >>> 1) &&& 15) (if j % 2 = 0 then 15 - b else 7 - b)).getLsbD ((j >>> 1) >>> 4))

/-- R70, R94, R96 and the inversion of R103: the sprite blocks have 128 bytes for every window; linear
byte `8r + q` packs columns `2q` and `2q+1` of row `r`. -/
def Obligations.SpriteLinearPacksPairs : Prop :=
  ∀ P : Window, (planar16 P).length = 128 ∧ (linear16 P).length = 128 ∧
    ∀ r q, r < 16 → q < 8 →
      ∃ b, (linear16 P)[8 * r + q]? = some b ∧
        b.extractLsb' 4 4 = nib (P r (2 * q)) ∧ b.extractLsb' 0 4 = nib (P r (2 * q + 1))

/-- R102 (the spec's own derivation): the sprite block holds the plane bytes of the four tiles, the
left half in the high byte and the right half in the low byte. -/
def Obligations.SpriteHoldsTilePlaneBytes : Prop :=
  ∀ (P : Window) (r p : Nat), r < 16 → p < 4 →
    let t := 2 * (r % 8) + p % 2 + 16 * (p / 2)
    let dr := 8 * (r / 8)
    (planar16 P)[2 * (r + 16 * p) + 1]? = (planar8 (P.sub 0 dr))[t]? ∧
    (planar16 P)[2 * (r + 16 * p)]? = (planar8 (P.sub 8 dr))[t]?

/-! ### The metatile functions -/

/-- R71, R106, R107, R108: byte `j` of a metatile block is byte `j & 31` of the tile block of quarter
`j >> 5`, which lies at column offset 8(n & 1) and row offset 8(n >> 1); 128 bytes each. -/
def Obligations.MetatileConcatenatesQuarters : Prop :=
  ∀ (P : Window) (j : Nat), j < 128 →
    let n := j >>> 5
    let Q : Window := fun r c => P (8 * (n >>> 1) + r) (8 * (n &&& 1) + c)
    (metaPlanar P).length = 128 ∧ (metaLinear P).length = 128 ∧
    (metaPlanar P)[j]? = (planar8 Q)[j &&& 31]? ∧ (metaLinear P)[j]? = (linear8 Q)[j &&& 31]?

/-- R111 (the spec's own derivation): the sprite linear block is the metatile linear block in another
order. -/
def Obligations.MetatileLinearPermutesSprite : Prop :=
  ∀ (P : Window) (r q : Nat), r < 16 → q < 8 →
    (linear16 P)[8 * r + q]? =
      (metaLinear P)[32 * (2 * (r / 8) + q / 4) + 4 * (r % 8) + q % 4]?

/-- R110 (the spec's own derivation; 95 V-M2 and V-S3 show such a window): the metatile planar block is
not always the sprite planar block. -/
def Obligations.MetatileIsNotSprite : Prop :=
  ∃ P : Window, metaPlanar P ≠ planar16 P

/-- R80 and R97 for the three operations: windows that agree in `nib` of every entry of the cell give
equal blocks, whatever lies outside the cell. -/
def Obligations.OnlyLowNibblesAreRead : Prop :=
  (∀ P P' : Window, (∀ r c, r < 8 → c < 8 → nib (P' r c) = nib (P r c)) →
    tileBlocks P' = tileBlocks P) ∧
  (∀ P P' : Window, (∀ r c, r < 16 → c < 16 → nib (P' r c) = nib (P r c)) →
    spriteBlocks P' = spriteBlocks P ∧ metaBlocks P' = metaBlocks P)

/-! ### The operations -/

/-- R76: ENC_TILE8, not yet faulted. A window inside the grid: 32 + 32 bytes are appended and nothing
else changes but the operand registers the command wrote. A window that leaves it: WINDOW_OOB, nothing
appended; that the operand registers then hold the faulting command's fields is log 4's reading
(DEDUCED; R129 says the state before the command). -/
def Obligations.EncTile8AppendsOrFaults : Prop :=
  ∀ (s : State) (c r : Nat), s.faultValid = false →
    (r + 8 ≤ s.grid.height ∧ c + 8 ≤ s.grid.width →
      exec (.encTile8 c r) s = .next { s with
        mode := 0b01#2, colOff := c, rowOff := r, operandsHeld := true
        planar := s.planar ++ planar8 (s.grid.windowAt c r)
        linear := s.linear ++ linear8 (s.grid.windowAt c r) }) ∧
    (r + 8 > s.grid.height ∨ c + 8 > s.grid.width →
      exec (.encTile8 c r) s = .next { s with
        mode := 0b01#2, colOff := c, rowOff := r, operandsHeld := true
        faultValid := true, faultCode := 2#2 })

/-- R91: ENC_SPRITE16, as R76 for a 16×16 window and the sprite blocks; the operand registers after a
fault are log 4's reading (DEDUCED). -/
def Obligations.EncSprite16AppendsOrFaults : Prop :=
  ∀ (s : State) (c r : Nat), s.faultValid = false →
    (r + 16 ≤ s.grid.height ∧ c + 16 ≤ s.grid.width →
      exec (.encSprite16 c r) s = .next { s with
        mode := 0b00#2, colOff := c, rowOff := r, operandsHeld := true
        planar := s.planar ++ planar16 (s.grid.windowAt c r)
        linear := s.linear ++ linear16 (s.grid.windowAt c r) }) ∧
    (r + 16 > s.grid.height ∨ c + 16 > s.grid.width →
      exec (.encSprite16 c r) s = .next { s with
        mode := 0b00#2, colOff := c, rowOff := r, operandsHeld := true
        faultValid := true, faultCode := 2#2 })

/-- R105: ENC_META16 appends the four tile planar blocks and the four tile linear blocks of its
quarters TL, TR, BL, BR, or faults with nothing appended. That the whole window is checked first is the
spec's D12; the operand registers after a fault are log 4's reading (DEDUCED). -/
def Obligations.EncMeta16AppendsOrFaults : Prop :=
  ∀ (s : State) (c r : Nat), s.faultValid = false →
    (r + 16 ≤ s.grid.height ∧ c + 16 ≤ s.grid.width →
      exec (.encMeta16 c r) s = .next { s with
        mode := 0b10#2, colOff := c, rowOff := r, operandsHeld := true
        planar := s.planar ++
          (planar8 (s.grid.windowAt c r) ++ planar8 (s.grid.windowAt (c + 8) r) ++
            planar8 (s.grid.windowAt c (r + 8)) ++ planar8 (s.grid.windowAt (c + 8) (r + 8)))
        linear := s.linear ++
          (linear8 (s.grid.windowAt c r) ++ linear8 (s.grid.windowAt (c + 8) r) ++
            linear8 (s.grid.windowAt c (r + 8)) ++ linear8 (s.grid.windowAt (c + 8) (r + 8))) }) ∧
    (r + 16 > s.grid.height ∨ c + 16 > s.grid.width →
      exec (.encMeta16 c r) s = .next { s with
        mode := 0b10#2, colOff := c, rowOff := r, operandsHeld := true
        faultValid := true, faultCode := 2#2 })

/-- R21, R41, R42: the window's entry (r, c) is the grid's entry at row ROW_OFF + r, column
COL_OFF + c, which stands at flat index row × W + col; outside the grid there is no entry. -/
def Obligations.WindowReadsRowMajorGrid : Prop :=
  ∀ (g : Grid) (c0 r0 r c : Nat),
    (r0 + r < g.height ∧ c0 + c < g.width →
      g.pix (r0 + r) (c0 + c) = some (Memory.read g.cells ((r0 + r) * g.width + (c0 + c))) ∧
      g.windowAt c0 r0 r c = Memory.read g.cells ((r0 + r) * g.width + (c0 + c))) ∧
    (g.height ≤ r0 + r ∨ g.width ≤ c0 + c → g.pix (r0 + r) (c0 + c) = none)

/-- The image's entries are kept apart (R21, R41): placing one leaves every other entry of the grid as
it was. It rests on the model's canonical memory (log 7). -/
def Obligations.PlacedEntryIsReadBack : Prop :=
  ∀ (g : Grid) (row col r c : Nat) (v : Byte), g.wf = true →
    row < g.height → col < g.width → r < g.height → c < g.width →
    (g.place row col v).pix r c = if r = row ∧ c = col then some v else g.pix r c

/-- R132: a command of window side `S` raises WINDOW_OOB exactly when its window leaves the grid; this
is the only check on the offsets. -/
def Obligations.WindowOobExactlyOutsideGrid : Prop :=
  ∀ (i : Instr) (s : State), s.faultValid = false →
    let S := match i with
      | .encTile8 _ _ => 8
      | .encSprite16 _ _ => 16
      | .encMeta16 _ _ => 16
    ∃ t, exec i s = .next t ∧
      (t.faultValid = true ↔ i.rowOff + S > s.grid.height ∨ i.colOff + S > s.grid.width) ∧
      (t.faultValid = true → t.faultCode = 2#2 ∧ t.planar = s.planar ∧ t.linear = s.linear)

/-- R60, R131, R135 (D5): `MODE = 11` raises ILLEGAL_MODE whatever its offsets and appends nothing; that
the operand registers keep what the command wrote is log 4's reading (DEDUCED, from R31). -/
def Obligations.ReservedModeRaisesIllegalMode : Prop :=
  ∀ (s : State) (c r : Nat), s.faultValid = false →
    issue ⟨0b11#2, c, r⟩ s = .next { s with
      mode := 0b11#2, colOff := c, rowOff := r, operandsHeld := true
      faultValid := true, faultCode := 1#2 }

/-- R137: fault entry sets a clear latch to its code and does nothing else; while the latch is set no
command, reserved or not, changes any state (D13). That such a command answers a next state, its operand
registers unwritten, is log 3's reading (DEDUCED; 93 I11 calls the treatment `refuse`). -/
def Obligations.FaultEntryAndLatchedCommands : Prop :=
  (∀ (s : State) (k : FaultCause), s.faultValid = false →
    s.raiseFault k = { s with faultValid := true, faultCode := k.code }) ∧
  (∀ (s : State) (k : FaultCause), s.faultValid = true → s.raiseFault k = s) ∧
  (∀ (s : State) (c : Command), s.faultValid = true → issue c s = .next s) ∧
  (∀ (s : State) (i : Instr), s.faultValid = true → exec i s = .next s)

/-- R130: the fault codes, and the packed FAULT register of R31 (bit positions: D13). -/
def Obligations.FaultRegisterPacksLatch : Prop :=
  FaultCause.code .illegalMode = 1#2 ∧ FaultCause.code .windowOob = 2#2 ∧
  ∀ s : State, s.faultWord.getLsbD 0 = s.faultValid ∧ s.faultWord.extractLsb' 1 2 = s.faultCode

/-- R49 (D12), with the sizes of R72: after a command without a fault its planar and its linear block have
been appended in full; on a fault, or while the latch was set, neither stream has changed. -/
def Obligations.CommandsAppendWholeBlocks : Prop :=
  ∀ (i : Instr) (s t : State), exec i s = .next t →
    let n := match i with
      | .encTile8 _ _ => 32
      | .encSprite16 _ _ => 128
      | .encMeta16 _ _ => 128
    (t.faultValid = true ∧ t.planar = s.planar ∧ t.linear = s.linear) ∨
    (t.faultValid = false ∧
      ∃ p l, t.planar = s.planar ++ p ∧ t.linear = s.linear ++ l ∧ p.length = n ∧ l.length = n)

/-- The frame of ENC_SPRITE16, ENC_TILE8 and ENC_META16: every grid entry, every stream byte already
there and every host field reads as before; operands change to the command's or not at all; a set
latch does not change (R21, R22, R24, R25, R27, R129). -/
def Obligations.CommandFrame : Prop :=
  ∀ (i : Instr) (s t : State), exec i s = .next t →
    (∀ row col, t.grid.pix row col = s.grid.pix row col) ∧
    t.grid = s.grid ∧
    (∀ n, n < s.planar.length → t.readStream .planar n = s.readStream .planar n) ∧
    (∀ n, n < s.linear.length → t.readStream .linear n = s.readStream .linear n) ∧
    ((t.mode = s.mode ∧ t.colOff = s.colOff ∧ t.rowOff = s.rowOff ∧
        t.operandsHeld = s.operandsHeld) ∨
      ({ mode := t.mode, colOff := t.colOff, rowOff := t.rowOff } = encode i ∧
        t.operandsHeld = true)) ∧
    (s.faultValid = true → t.faultValid = true ∧ t.faultCode = s.faultCode) ∧
    (t.faultValid = false → t.faultCode = s.faultCode) ∧
    t.colourMode = s.colourMode ∧ t.config = s.config ∧ t.walkRow = s.walkRow ∧
    t.walkCol = s.walkCol ∧ t.phase = s.phase ∧ t.program = s.program ∧
    t.commandLine = s.commandLine ∧ t.image = s.image ∧ t.planarWritable = s.planarWritable ∧
    t.linearWritable = s.linearWritable ∧ t.error = s.error ∧ t.exitStatus = s.exitStatus ∧
    t.files = s.files ∧ t.launches = s.launches ∧ t.freeCount = s.freeCount

/-- R82, R99 and R112: two states that agree in the low nibbles of the command's window get the same
blocks, whatever else differs between them: the rest of the grid, the streams, the host. (The metatile
case, R112, and the low nibbles, R80 and R97, are the spec's own derivations.) -/
def Obligations.BlocksDependOnWindowOnly : Prop :=
  ∀ (i : Instr) (s t : State), s.faultValid = false → t.faultValid = false →
    let S := match i with
      | .encTile8 _ _ => 8
      | .encSprite16 _ _ => 16
      | .encMeta16 _ _ => 16
    s.grid.fits S i.colOff i.rowOff → t.grid.fits S i.colOff i.rowOff →
    (∀ r c, r < S → c < S →
      (s.grid.pix (i.rowOff + r) (i.colOff + c)).map nib =
        (t.grid.pix (i.rowOff + r) (i.colOff + c)).map nib) →
    ∃ s' t' p l, exec i s = .next s' ∧ exec i t = .next t' ∧
      s'.planar = s.planar ++ p ∧ t'.planar = t.planar ++ p ∧
      s'.linear = s.linear ++ l ∧ t'.linear = t.linear ++ l

/-- R109 (the source's fourth test property, as the spec derives it): one ENC_META16 leaves the streams
that four ENC_TILE8 commands at its quarters, TL, TR, BL, BR, leave. -/
def Obligations.MetatileEqualsFourTileCommands : Prop :=
  ∀ (s : State) (c r : Nat), s.faultValid = false →
    r + 16 ≤ s.grid.height → c + 16 ≤ s.grid.width →
    ∃ m t0 t1 t2 t3, exec (.encMeta16 c r) s = .next m ∧
      exec (.encTile8 c r) s = .next t0 ∧ exec (.encTile8 (c + 8) r) t0 = .next t1 ∧
      exec (.encTile8 c (r + 8)) t1 = .next t2 ∧ exec (.encTile8 (c + 8) (r + 8)) t2 = .next t3 ∧
      m.planar = t3.planar ∧ m.linear = t3.linear ∧ m.faultValid = false ∧ t3.faultValid = false

/-- R3, R30 (D18): what a command does to block state does not depend on ConversionConfig; `emit_linear`
does not change what the block computes. -/
def Obligations.CommandsIgnoreConfig : Prop :=
  ∀ (i : Instr) (s : State) (cfg : ConversionConfig),
    exec i { s with config := cfg } = thenNext (exec i s) fun t => { t with config := cfg }

/-! ### Steps -/

/-- A step at a command of the host's own performs exactly the operation it decodes to, the command
taken off the host's list (R58, R120); a reserved one raises its fault. -/
def Obligations.StepRunsDecodedCommand : Prop :=
  ∀ (s : State) (c : Command) (rest : List Command), s.phase = .commands →
    s.program = .direct (c :: rest) →
    (∀ i, decode c = .operation i → step s = exec i { s with program := .direct rest }) ∧
    (decode c = .reserved → step s = .next (performReserved c { s with program := .direct rest }))

/-- A table word placed for the next step is what the next step runs (log 1, log 9). -/
def Obligations.StepRunsPlacedWord : Prop :=
  ∀ (s : State) (nbits w : Nat) (i : Instr), decodeTableWord nbits w = some i →
    step (s.withFetchWord nbits w) = exec i { s with phase := .commands, program := .direct [] }

/-- R118, R119: a step of CONVERT's walk with a cell left issues the layout's operation at the cursor,
stops if the latch is set, and else moves the cursor column-fastest; with no row left the walk ends; a
row without a whole cell gives no command (log 17). -/
def Obligations.ConvertStepRunsCellCommand : Prop :=
  ∀ s : State, s.phase = .commands → s.program = .convert →
    let size := Layout.cellSize s.config.layout
    let h := s.grid.height / size * size
    let w := s.grid.width / size * size
    (s.walkRow < h → s.walkCol < w →
      ∃ i, decode ⟨Sys2Proof.Layout.mode s.config.layout, s.walkCol, s.walkRow⟩ = .operation i ∧
        step s = thenNext (exec i s) fun t =>
          if t.faultValid = true then { t with phase := .write }
          else if s.walkCol + size < w then { t with walkCol := s.walkCol + size }
          else { t with walkRow := s.walkRow + size, walkCol := 0 }) ∧
    (s.walkRow < h → w ≤ s.walkCol →
      step s = .next { s with walkRow := s.walkRow + size, walkCol := 0 }) ∧
    (h ≤ s.walkRow → step s = .next { s with phase := .write })

/-- R120 (the spec's own derivation): every command CONVERT issues from an aligned cursor has its window
inside the grid, so the latch stays clear. -/
def Obligations.ConvertNeverFaults : Prop :=
  ∀ s : State, s.phase = .commands → s.program = .convert → s.faultValid = false →
    let size := Layout.cellSize s.config.layout
    s.walkRow % size = 0 → s.walkCol % size = 0 →
    NextWith (step s) fun t => t.faultValid = false ∧ t.walkRow % size = 0 ∧ t.walkCol % size = 0

/-- R116, R122: a run has ⌊H/size⌋ × ⌊W/size⌋ cells; the `n`-th has ROW_OFF = size × ⌊n/cw⌋ and
COL_OFF = size × (n mod cw). (R122 is the spec's own derivation.) -/
def Obligations.NthCellOfRun : Prop :=
  ∀ (l : Sys2Proof.Layout) (g : Grid) (n : Nat),
    let size := Layout.cellSize l
    let cw := g.width / size
    (runCells l g).length = g.height / size * cw ∧
    (n < g.height / size * cw → (runCells l g)[n]? = some (size * (n / cw), size * (n % cw)))

/-- R117, R122 (the spec's own derivations): the streams of a run have N × PB bytes, and the `n`-th
cell's blocks stand at bytes n × PB .. n × PB + PB − 1. -/
def Obligations.NthBlockOfRun : Prop :=
  ∀ (l : Sys2Proof.Layout) (g : Grid) (n : Nat) (cell : Nat × Nat),
    (walkBlocks l g).planar.length = (runCells l g).length * Layout.blockSize l ∧
    (walkBlocks l g).linear.length = (runCells l g).length * Layout.blockSize l ∧
    ((runCells l g)[n]? = some cell →
      ((walkBlocks l g).planar.drop (n * Layout.blockSize l)).take (Layout.blockSize l) =
        (Layout.blocks l (g.windowAt cell.2 cell.1)).planar ∧
      ((walkBlocks l g).linear.drop (n * Layout.blockSize l)).take (Layout.blockSize l) =
        (Layout.blocks l (g.windowAt cell.2 cell.1)).linear)

/-- R115, R121: the cells of a run cover the truncated extent exactly once and nothing outside it. -/
def Obligations.CellsTileTruncatedExtent : Prop :=
  ∀ (l : Sys2Proof.Layout) (g : Grid) (row col : Nat),
    let size := Layout.cellSize l
    (runCells l g).Nodup ∧
    (row < g.height / size * size ∧ col < g.width / size * size →
      ∃! cell, cell ∈ runCells l g ∧ cell.1 ≤ row ∧ row < cell.1 + size ∧
        cell.2 ≤ col ∧ col < cell.2 + size) ∧
    (∀ cell ∈ runCells l g, cell.1 + size ≤ g.height / size * size ∧
      cell.2 + size ≤ g.width / size * size)

/-- R54, R161: workers that take consecutive row ranges and concatenate their blocks in row-major order
leave the sequential walker's streams. -/
def Obligations.RowPartitionConforms : Prop :=
  ∀ (l : Sys2Proof.Layout) (g : Grid) (k : Nat), k ≤ g.height / Layout.cellSize l →
    let size := Layout.cellSize l
    let cw := g.width / size
    let first := encodeCells l g (cellRows size cw 0 k)
    let second := encodeCells l g (cellRows size cw k (g.height / size - k))
    ConformingStreams l g
      { planar := first.planar ++ second.planar, linear := first.linear ++ second.linear }

/-- R123: a grid smaller than one cell gives no command and empty streams. -/
def Obligations.SmallGridGivesNoCommand : Prop :=
  ∀ (l : Sys2Proof.Layout) (g : Grid),
    g.width < Layout.cellSize l ∨ g.height < Layout.cellSize l →
    runCells l g = [] ∧ walkBlocks l g = { planar := [], linear := [] }

/-! ### A run -/

/-- R151: the block's reset at the start of a run leaves both streams empty, the latch clear, the
operand registers without a value (a read is refused, 93 I13) and the cursor at (0, 0); then the host
issues commands. -/
def Obligations.BlockResetState : Prop :=
  ∀ s : State, s.phase = .resetBlock →
    NextWith (step s) fun t =>
      t.planar = [] ∧ t.linear = [] ∧ t.faultValid = false ∧ t.faultCode = 0#2 ∧
      t.readMode = .error .operandHasNoValue ∧ t.readColOff = .error .operandHasNoValue ∧
      t.readRowOff = .error .operandHasNoValue ∧ t.walkRow = 0 ∧ t.walkCol = 0 ∧
      t.grid = s.grid ∧ t.colourMode = s.colourMode ∧ t.config = s.config ∧ t.phase = .commands

/-- R151, R152: right after reset the streams are empty, the latch clear, the cursor at (0, 0), the
operands without a value, and the block waits: with no run asked for a step changes nothing (that the
wait is a step is the model's choice, log 9). -/
def Obligations.ResetWaitsForHost : Prop :=
  State.reset.planar = [] ∧ State.reset.linear = [] ∧ State.reset.faultValid = false ∧
  State.reset.faultCode = 0#2 ∧ State.reset.walkRow = 0 ∧ State.reset.walkCol = 0 ∧
  State.reset.operandsHeld = false ∧ step State.reset = .next State.reset

/-- R34, R153: a run that begins keeps nothing of the state before it but the model's free-value counter:
two waiting states with the same runs asked for and the same counter (log 14, DESIGN CHOICE) take the
same step. The fresh state at the beginning of a run is log 10's reading (DEDUCED) and the queue of runs
its DESIGN CHOICE. -/
def Obligations.RunsShareNoState : Prop :=
  ∀ (s t : State) (l : Launch) (rest : List Launch),
    (s.phase = .idle ∨ s.phase = .ended) → (t.phase = .idle ∨ t.phase = .ended) →
    s.launches = l :: rest → t.launches = l :: rest → s.freeCount = t.freeCount →
    step s = step t ∧ NextWith (step s) fun u =>
      u.planar = [] ∧ u.linear = [] ∧ u.faultValid = false ∧ u.files = [] ∧ u.phase = .decode

/-- R133: an image whose colour mode is not INDEXED8 fails before any command: from the wait, three
steps end the run with UnsupportedImageMode, exit status 1, no file and empty streams. (The queue of runs
and the fresh state are log 10's, the number of steps log 11's.) -/
def Obligations.NonIndexedImageEndsRun : Prop :=
  ∀ (s : State) (l : Launch) (rest : List Launch) (im : Image),
    (s.phase = .idle ∨ s.phase = .ended) → s.launches = l :: rest →
    l.image = some im → im.colourMode = .other →
    ∃ t : State, Host.Core.run Sys2Proof.core 3 s = .next t ∧ t.phase = .ended ∧
      t.error = some .unsupportedImageMode ∧ t.exitStatus = some 1 ∧ t.files = [] ∧
      t.planar = [] ∧ t.linear = [] ∧ t.faultValid = false

/-- R134, R136: an image file that cannot be decoded ends the run before the colour mode is looked at,
with ImageDecodeError, exit status 1 and no file. (The queue of runs and the fresh state are log 10's, the
number of steps log 11's.) -/
def Obligations.UndecodableImageEndsRun : Prop :=
  ∀ (s : State) (l : Launch) (rest : List Launch),
    (s.phase = .idle ∨ s.phase = .ended) → s.launches = l :: rest → l.image = none →
    ∃ t : State, Host.Core.run Sys2Proof.core 2 s = .next t ∧ t.phase = .ended ∧
      t.error = some .imageDecodeError ∧ t.exitStatus = some 1 ∧ t.files = [] ∧
      t.planar = [] ∧ t.linear = []

/-- R141, R142: with the latch set the run ends with its block fault, no file and exit status 1, even
where a file could not have been written (R136). -/
def Obligations.FaultedRunWritesNoFile : Prop :=
  ∀ s : State, s.phase = .write → s.faultValid = true →
    step s = .next { s with
      phase := .ended, error := some (.blockFault s.faultCode), exitStatus := some 1, files := [] }

/-- R141, R142: a run ends with exit status 0 exactly when no error was raised, else with 1; after a block
fault or an error met before the walk it has written no file. -/
def Obligations.EndingStatusTellsSuccess : Prop :=
  ∀ s t : State, step s = .next t → s.phase ≠ .ended → t.phase = .ended →
    (t.exitStatus = some 0 ↔ t.error = none) ∧ (t.exitStatus = some 1 ↔ t.error ≠ none) ∧
    (s.faultValid = true ∨ t.error = some .imageDecodeError ∨ t.error = some .unsupportedImageMode →
      t.exitStatus = some 1 ∧ t.files = [])

/-- R140, R142: without a fault, and with the files writable, PLANAR goes to the planar file and, if
`emit_linear`, LINEAR to the linear file, byte for byte; exit status 0 (D16, D18). (The case of two equal
names is R143's.) That this holds of a host that issues its own commands too is log 12's DESIGN CHOICE:
the spec gives the files of CONVERT's runs. -/
def Obligations.SuccessfulRunWritesStreams : Prop :=
  ∀ s : State, s.phase = .write → s.faultValid = false → s.planarWritable = true →
    (s.config.emitLinear = true → s.linearWritable = true) →
    (s.commandLine.fileOut = none ∨ s.config.emitLinear = false) →
    step s = .next { s with
      phase := .ended, error := none, exitStatus := some 0
      files :=
        { name := { base := s.commandLine.fileOut.getD "planar", layout := s.config.layout }
          bytes := s.planar } ::
        (if s.config.emitLinear then
          [{ name := { base := "linear", layout := s.config.layout }, bytes := s.linear }] else []) }

/-- R143: with `--fileout NAME` and `emit_linear` there is one file, `NAME` with the layout's suffix,
and its content is one of PLANAR or LINEAR (D17; log 13). For a host that issues its own commands the file
and its name are log 12's DESIGN CHOICE. -/
def Obligations.NameCollisionKeepsOneStream : Prop :=
  ∀ (s : State) (name : String), s.phase = .write → s.faultValid = false →
    s.planarWritable = true → s.linearWritable = true →
    s.commandLine.fileOut = some name → s.config.emitLinear = true →
    NextWith (step s) fun t => t.exitStatus = some 0 ∧ t.planar = s.planar ∧ t.linear = s.linear ∧
      ∃ bytes, (bytes = s.planar ∨ bytes = s.linear) ∧
        t.files = [{ name := { base := name, layout := s.config.layout }, bytes := bytes }]

/-- R134, R142: an output file that cannot be written ends the run with IOError and exit status 1; what
stands under its names is any value (93 I7; log 14), so nothing is said of it but that no other name
appears. (That a file can be written is an input, log 15; a host's own commands, log 12.) -/
def Obligations.UnwritableFileEndsRunWithIoError : Prop :=
  ∀ s : State, s.phase = .write → s.faultValid = false →
    (s.planarWritable = false ∨ (s.config.emitLinear = true ∧ s.linearWritable = false)) →
    NextWith (step s) fun t => t.phase = .ended ∧ t.error = some .ioError ∧ t.exitStatus = some 1 ∧
      t.planar = s.planar ∧ t.linear = s.linear ∧
      ∀ f ∈ t.files, f.name = s.fileName .planar ∨
        (s.config.emitLinear = true ∧ f.name = s.fileName .linear)

/-- R139: a file's name is its base, the suffix of `--type` and `.bin`, whatever the base; the base is
`--fileout`'s NAME for both streams, or by default `planar` and `linear`. -/
def Obligations.OutputFileNames : Prop :=
  (∀ base : String, FileName.text ⟨base, .sprite16⟩ = base ++ "_spr16" ++ ".bin" ∧
    FileName.text ⟨base, .tile8⟩ = base ++ "_tle8" ++ ".bin" ∧
    FileName.text ⟨base, .tile16Meta⟩ = base ++ "_tle16" ++ ".bin") ∧
  (FileName.text ⟨"planar", .sprite16⟩ = "planar_spr16.bin" ∧
    FileName.text ⟨"linear", .sprite16⟩ = "linear_spr16.bin") ∧
  (FileName.text ⟨"planar", .tile8⟩ = "planar_tle8.bin" ∧
    FileName.text ⟨"linear", .tile8⟩ = "linear_tle8.bin") ∧
  (FileName.text ⟨"planar", .tile16Meta⟩ = "planar_tle16.bin" ∧
    FileName.text ⟨"linear", .tile16Meta⟩ = "linear_tle16.bin") ∧
  ∀ s : State, (s.commandLine.fileOut = none →
      s.fileName .planar = ⟨"planar", s.config.layout⟩ ∧
      s.fileName .linear = ⟨"linear", s.config.layout⟩) ∧
    (∀ name st, s.commandLine.fileOut = some name → s.fileName st = ⟨name, s.config.layout⟩)

/-- R26: a stream's byte exists exactly below its length; a read at or past it is refused (D29). -/
def Obligations.StreamReadsEndAtLength : Prop :=
  ∀ (s : State) (st : Stream) (i : Nat),
    (∀ b, s.readStream st i = .ok b → (s.stream st)[i]? = some b) ∧
    (i < (s.stream st).length → ∃ b, s.readStream st i = .ok b) ∧
    ((s.stream st).length ≤ i → s.readStream st i = .error .streamReadPastEnd)

/-- R27, R138: once set, the latch keeps its first code through every step but the beginning of a run
and its block reset. -/
def Obligations.LatchIsSticky : Prop :=
  ∀ s t : State, step s = .next t → s.faultValid = true →
    s.phase ≠ .resetBlock → (s.phase = .idle ∨ s.phase = .ended → s.launches = []) →
    t.faultValid = true ∧ t.faultCode = s.faultCode ∧ t.planar = s.planar ∧ t.linear = s.linear

/-- R24, R25: the streams are only appended to: no step but the beginning of a run and its block reset
takes a byte away or changes one. -/
def Obligations.StreamsOnlyGrow : Prop :=
  ∀ s t : State, step s = .next t →
    s.phase ≠ .resetBlock → (s.phase = .idle ∨ s.phase = .ended → s.launches = []) →
    ∃ p l, t.planar = s.planar ++ p ∧ t.linear = s.linear ++ l

/-- R30, R52, R156: from the end of decoding to the end of the run no step changes the grid, its size or
the colour mode, and after configuration none changes ConversionConfig. -/
def Obligations.GridAndConfigFixedForRun : Prop :=
  ∀ s t : State, step s = .next t →
    (s.phase = .colourCheck ∨ s.phase = .configure ∨ s.phase = .resetBlock ∨
      s.phase = .commands ∨ s.phase = .write) →
    t.grid = s.grid ∧ t.colourMode = s.colourMode ∧
    (s.phase ≠ .configure → t.config = s.config)

/-- R154: the host's steps come in its order: decode, colour check, configure, reset, commands, write;
a run leaves the order only to end. -/
def Obligations.BootAndRunOrder : Prop :=
  ∀ s t : State, step s = .next t →
    (s.phase = .decode → t.phase = .colourCheck ∨ t.phase = .ended) ∧
    (s.phase = .colourCheck → t.phase = .configure ∨ t.phase = .ended) ∧
    (s.phase = .configure → t.phase = .resetBlock ∧
      t.config = { layout := s.commandLine.type, emitLinear := s.commandLine.emitLinear }) ∧
    (s.phase = .resetBlock → t.phase = .commands) ∧
    (s.phase = .commands → t.phase = .commands ∨ t.phase = .write) ∧
    (s.phase = .write → t.phase = .ended)

/-- R150: `--silence` changes no stream, no file and nothing else: a step of a run commutes with setting
it. -/
def Obligations.SilenceChangesNothing : Prop :=
  ∀ (s : State) (b : Bool), (s.phase = .idle ∨ s.phase = .ended → s.launches = []) →
    step { s with commandLine := { s.commandLine with silence := b } } =
      thenNext (step s) fun t => { t with commandLine := { t.commandLine with silence := b } }

/-- The model has a next state for every state: no step faults or refuses, the fairness assumption of
R162 (D24) and the end of the argument that no command reads outside the grid (R21, R132). -/
def Obligations.EveryStepAnswers : Prop :=
  ∀ s : State, ∃ t, step s = .next t

/-! ### Invariants and the whole run -/

/-- The invariants of Safety.lean (R26, R27, R49, R72, R141, R142; R117 to R122) hold right after reset. -/
def Obligations.ResetMeetsInvariants : Prop :=
  Inv State.reset ∧ WalkInv State.reset ∧ WalkDone State.reset

/-- Every step keeps the invariant: a legal latch (R27), streams of equal length in whole blocks (R49,
R72), canonical grids (log 7), and a legal ending (R141, R142). -/
def Obligations.StepKeepsInvariant : Prop :=
  StepKeeps Inv

/-- Every step keeps the walk's invariant: through CONVERT's walk the streams are exactly the blocks of
the cells visited so far, in row-major order, and after it those of the whole extent (R117 to R122). -/
def Obligations.StepKeepsWalkInvariant : Prop :=
  StepKeeps fun s => WalkInv s ∧ WalkDone s

/-- R119, R125, R154: CONVERT on an indexed image, from the wait to the end of the run: it ends, within
a bound set by the grid's size, without a fault, with the streams of the sequential row-major walk; if
the files can be written it succeeds and writes them. (The step bound rests on the model's steps: the wait,
log 9, the beginning of a run, log 10, one step a command or host step, log 11, and one a row without a
whole cell, log 17.) -/
def Obligations.ConvertRunEndsWithWalkStreams : Prop :=
  ∀ (s : State) (l : Launch) (rest : List Launch) (im : Image),
    (s.phase = .idle ∨ s.phase = .ended) → s.launches = l :: rest →
    l.image = some im → im.colourMode = .indexed8 → l.program = .convert →
    let size := Layout.cellSize l.commandLine.type
    ∃ (n : Nat) (t : State),
      n ≤ 7 + im.grid.height / size * (im.grid.width / size + 1) ∧
      Host.Core.run Sys2Proof.core n s = .next t ∧ t.phase = .ended ∧ t.faultValid = false ∧
      { planar := t.planar, linear := t.linear } = walkBlocks l.commandLine.type im.grid ∧
      (l.planarWritable = true → (l.commandLine.emitLinear = true → l.linearWritable = true) →
        t.exitStatus = some 0 ∧ t.files = t.outputFiles)
end

