-- ==== Sys2Proof/Laws/Codec.lean ====
section
/-! SUPPORT. The shared loop of the two planar codecs: what it leaves in each accumulator, and the lengths of blocks. -/

namespace Sys2Proof.Machine

/-- One plane of one pixel keeps the number of accumulators. -/
theorem foldPlanes_length {n : Nat} (target : Nat → Nat) (ps : List Nat)
    (st : List (BitVec n) × Byte) :
    (ps.foldl (fun (st : List (BitVec n) × Byte) p =>
      (st.1.modify (target p) (shiftIn · st.2), st.2 >>> 1)) st).1.length = st.1.length := by
  induction ps generalizing st with
  | nil => rfl
  | cons p rest ih => simp [ih]

@[simp] theorem foldPixel_length {n : Nat} (target : Nat → Nat) (acc : List (BitVec n)) (v : Byte) :
    (foldPixel target acc v).length = acc.length :=
  foldPlanes_length target _ (acc, v)

/-- A fold whose every step keeps the length keeps the length. -/
theorem foldl_length_eq {α β : Type} (f : List α → β → List α)
    (hf : ∀ acc x, (f acc x).length = acc.length) (xs : List β) (acc : List α) :
    (xs.foldl f acc).length = acc.length := by
  induction xs generalizing acc with
  | nil => rfl
  | cons x rest ih => simp [ih, hf]

@[simp] theorem accumulate_length {n : Nat} (side : Nat) (target : Nat → Nat → Nat) (P : Window)
    (acc : List (BitVec n)) : (accumulate side target P acc).length = acc.length :=
  foldl_length_eq _ (fun acc _ => foldl_length_eq _ (fun acc _ => foldPixel_length _ acc _) _ acc) _ acc

@[simp] theorem planar8_length (P : Window) : (planar8 P).length = 32 := by simp [planar8]

@[simp] theorem linear8_length (P : Window) : (linear8 P).length = 32 := by
  simp [linear8, List.length_flatMap]

@[simp] theorem spriteWords_length (P : Window) : (spriteWords P).length = 64 := by
  simp [spriteWords]

/-- One pixel touches accumulator `k` once, for the one plane `p` whose target it is. -/
theorem foldPixel_getElem? {n : Nat} {target : Nat → Nat} {k p : Nat} (hp : p < Config.planes)
    (hk : ∀ q, q < Config.planes → (target q = k ↔ q = p)) (acc : List (BitVec n)) (v : Byte) :
    (foldPixel target acc v)[k]? = (acc[k]?).map fun a => shiftIn a (v >>> p) := by
  have h0 := hk 0 (by decide)
  have h1 := hk 1 (by decide)
  have h2 := hk 2 (by decide)
  have h3 := hk 3 (by decide)
  have hp' : p = 0 ∨ p = 1 ∨ p = 2 ∨ p = 3 := by simp only [Config.planes] at hp; omega
  rcases hp' with rfl | rfl | rfl | rfl <;>
    simp [foldPixel, List.range_succ, List.getElem?_modify, h0, h1, h2, h3, ← BitVec.shiftRight_add]

/-- A pixel leaves an accumulator that is no target of its row alone. -/
theorem foldPixel_getElem?_of_ne {n : Nat} {target : Nat → Nat} {k : Nat}
    (hk : ∀ q, q < Config.planes → target q ≠ k) (acc : List (BitVec n)) (v : Byte) :
    (foldPixel target acc v)[k]? = acc[k]? := by
  have h0 := hk 0 (by decide)
  have h1 := hk 1 (by decide)
  have h2 := hk 2 (by decide)
  have h3 := hk 3 (by decide)
  simp [foldPixel, List.range_succ, h0, h1, h2, h3]

/-- A row folded in: accumulator `k` is shifted once for each pixel if it is the row's target for
plane `p`. -/
theorem foldRow_getElem? {n : Nat} {target : Nat → Nat} {k p : Nat} (hp : p < Config.planes)
    (hk : ∀ q, q < Config.planes → (target q = k ↔ q = p)) (f : Nat → Byte) (cs : List Nat)
    (acc : List (BitVec n)) :
    (cs.foldl (fun acc c => foldPixel target acc (f c)) acc)[k]? =
      (acc[k]?).map fun a => cs.foldl (fun a c => shiftIn a (f c >>> p)) a := by
  induction cs generalizing acc with
  | nil => simp
  | cons c rest ih => simp [ih, foldPixel_getElem? hp hk, Option.map_map, Function.comp_def]

/-- A row leaves an accumulator that is no target of it alone. -/
theorem foldRow_getElem?_of_ne {n : Nat} {target : Nat → Nat} {k : Nat}
    (hk : ∀ q, q < Config.planes → target q ≠ k) (f : Nat → Byte) (cs : List Nat)
    (acc : List (BitVec n)) :
    (cs.foldl (fun acc c => foldPixel target acc (f c)) acc)[k]? = acc[k]? := by
  induction cs generalizing acc with
  | nil => rfl
  | cons c rest ih => simp [ih, foldPixel_getElem?_of_ne hk]

/-- All that the accumulation does to one accumulator: where `k` is the target of row `r`, plane `p` and
of no other, it is shifted once for each pixel of row `r`, left to right, by bit `p` (R77, R79, R92). -/
theorem accumulate_getElem? {n side : Nat} {target : Nat → Nat → Nat} {k r p : Nat} (hr : r < side)
    (hp : p < Config.planes)
    (hk : ∀ r' q, r' < side → q < Config.planes → (target r' q = k ↔ r' = r ∧ q = p))
    (P : Window) (acc : List (BitVec n)) :
    (accumulate side target P acc)[k]? =
      (acc[k]?).map fun a => (List.range side).foldl (fun a c => shiftIn a (P r c >>> p)) a := by
  have rows : ∀ m, m ≤ side → ((List.range m).foldl (fun acc r =>
      (List.range side).foldl (fun acc c => foldPixel (target r) acc (P r c)) acc) acc)[k]? =
      if r < m then
        (acc[k]?).map fun a => (List.range side).foldl (fun a c => shiftIn a (P r c >>> p)) a
      else acc[k]? := by
    intro m hm
    induction m with
    | zero => simp
    | succ m ih =>
      rw [List.range_succ, List.foldl_append, List.foldl_cons, List.foldl_nil]
      have ih := ih (by omega)
      by_cases hmr : m = r
      · subst hmr
        rw [foldRow_getElem? hp (fun q hq => by simpa using hk m q (by omega) hq) (P m), ih]
        simp
      · rw [foldRow_getElem?_of_ne (fun q hq h => hmr ((hk m q (by omega) hq).mp h).1) (P m), ih]
        have : r < m ↔ r < m + 1 := by omega
        simp [this]
  simpa [accumulate, hr] using rows side le_rfl

/-- Shifting in the low bits of `f 0`, `f 1`, … leaves the last one in bit 0 and the first one in the
highest (R66, R68). -/
theorem foldl_shiftIn_getLsbD {n : Nat} (f : Nat → Byte) (m b : Nat) (hm : m ≤ n) (hb : b < m) :
    ((List.range m).foldl (fun a c => shiftIn a (f c)) (0#n)).getLsbD b =
      (f (m - 1 - b)).getLsbD 0 := by
  induction m generalizing b with
  | zero => omega
  | succ m ih =>
    rw [List.range_succ, List.foldl_append, List.foldl_cons, List.foldl_nil]
    simp only [shiftIn, BitVec.getLsbD_or, BitVec.getLsbD_shiftLeft, BitVec.getLsbD_setWidth,
      BitVec.getLsbD_and]
    rcases b with _ | b
    · have : 0 < n := by omega
      simp [this]
    · rw [show m + 1 - 1 - (b + 1) = m - 1 - b by omega, ← ih b (by omega) (by omega)]
      have : b + 1 < n := by omega
      simp [this, shiftIn]

end Sys2Proof.Machine
end

