-- ==== Sys2Proof/Laws/State.lean ====
section
/-! SUPPORT. One lemma per field per update of State, so that no later proof unfolds a record update. -/

namespace Sys2Proof.Machine

variable (s : State)

/-! ### withOperands -/

@[simp] theorem State.withOperands_grid (c : Command) : (s.withOperands c).grid = s.grid := rfl
@[simp] theorem State.withOperands_mode (c : Command) : (s.withOperands c).mode = c.mode := rfl
@[simp] theorem State.withOperands_colOff (c : Command) : (s.withOperands c).colOff = c.colOff := rfl
@[simp] theorem State.withOperands_rowOff (c : Command) : (s.withOperands c).rowOff = c.rowOff := rfl
@[simp] theorem State.withOperands_operandsHeld (c : Command) : (s.withOperands c).operandsHeld = true := rfl
@[simp] theorem State.withOperands_planar (c : Command) : (s.withOperands c).planar = s.planar := rfl
@[simp] theorem State.withOperands_linear (c : Command) : (s.withOperands c).linear = s.linear := rfl
@[simp] theorem State.withOperands_faultValid (c : Command) : (s.withOperands c).faultValid = s.faultValid := rfl
@[simp] theorem State.withOperands_faultCode (c : Command) : (s.withOperands c).faultCode = s.faultCode := rfl
@[simp] theorem State.withOperands_colourMode (c : Command) : (s.withOperands c).colourMode = s.colourMode := rfl
@[simp] theorem State.withOperands_config (c : Command) : (s.withOperands c).config = s.config := rfl
@[simp] theorem State.withOperands_walkRow (c : Command) : (s.withOperands c).walkRow = s.walkRow := rfl
@[simp] theorem State.withOperands_walkCol (c : Command) : (s.withOperands c).walkCol = s.walkCol := rfl
@[simp] theorem State.withOperands_phase (c : Command) : (s.withOperands c).phase = s.phase := rfl
@[simp] theorem State.withOperands_program (c : Command) : (s.withOperands c).program = s.program := rfl
@[simp] theorem State.withOperands_commandLine (c : Command) : (s.withOperands c).commandLine = s.commandLine := rfl
@[simp] theorem State.withOperands_image (c : Command) : (s.withOperands c).image = s.image := rfl
@[simp] theorem State.withOperands_planarWritable (c : Command) : (s.withOperands c).planarWritable = s.planarWritable := rfl
@[simp] theorem State.withOperands_linearWritable (c : Command) : (s.withOperands c).linearWritable = s.linearWritable := rfl
@[simp] theorem State.withOperands_error (c : Command) : (s.withOperands c).error = s.error := rfl
@[simp] theorem State.withOperands_exitStatus (c : Command) : (s.withOperands c).exitStatus = s.exitStatus := rfl
@[simp] theorem State.withOperands_files (c : Command) : (s.withOperands c).files = s.files := rfl
@[simp] theorem State.withOperands_launches (c : Command) : (s.withOperands c).launches = s.launches := rfl
@[simp] theorem State.withOperands_freeCount (c : Command) : (s.withOperands c).freeCount = s.freeCount := rfl

/-! ### appendBlocks -/

@[simp] theorem State.appendBlocks_grid (b : Blocks) : (s.appendBlocks b).grid = s.grid := rfl
@[simp] theorem State.appendBlocks_mode (b : Blocks) : (s.appendBlocks b).mode = s.mode := rfl
@[simp] theorem State.appendBlocks_colOff (b : Blocks) : (s.appendBlocks b).colOff = s.colOff := rfl
@[simp] theorem State.appendBlocks_rowOff (b : Blocks) : (s.appendBlocks b).rowOff = s.rowOff := rfl
@[simp] theorem State.appendBlocks_operandsHeld (b : Blocks) : (s.appendBlocks b).operandsHeld = s.operandsHeld := rfl
@[simp] theorem State.appendBlocks_planar (b : Blocks) : (s.appendBlocks b).planar = s.planar ++ b.planar := rfl
@[simp] theorem State.appendBlocks_linear (b : Blocks) : (s.appendBlocks b).linear = s.linear ++ b.linear := rfl
@[simp] theorem State.appendBlocks_faultValid (b : Blocks) : (s.appendBlocks b).faultValid = s.faultValid := rfl
@[simp] theorem State.appendBlocks_faultCode (b : Blocks) : (s.appendBlocks b).faultCode = s.faultCode := rfl
@[simp] theorem State.appendBlocks_colourMode (b : Blocks) : (s.appendBlocks b).colourMode = s.colourMode := rfl
@[simp] theorem State.appendBlocks_config (b : Blocks) : (s.appendBlocks b).config = s.config := rfl
@[simp] theorem State.appendBlocks_walkRow (b : Blocks) : (s.appendBlocks b).walkRow = s.walkRow := rfl
@[simp] theorem State.appendBlocks_walkCol (b : Blocks) : (s.appendBlocks b).walkCol = s.walkCol := rfl
@[simp] theorem State.appendBlocks_phase (b : Blocks) : (s.appendBlocks b).phase = s.phase := rfl
@[simp] theorem State.appendBlocks_program (b : Blocks) : (s.appendBlocks b).program = s.program := rfl
@[simp] theorem State.appendBlocks_commandLine (b : Blocks) : (s.appendBlocks b).commandLine = s.commandLine := rfl
@[simp] theorem State.appendBlocks_image (b : Blocks) : (s.appendBlocks b).image = s.image := rfl
@[simp] theorem State.appendBlocks_planarWritable (b : Blocks) : (s.appendBlocks b).planarWritable = s.planarWritable := rfl
@[simp] theorem State.appendBlocks_linearWritable (b : Blocks) : (s.appendBlocks b).linearWritable = s.linearWritable := rfl
@[simp] theorem State.appendBlocks_error (b : Blocks) : (s.appendBlocks b).error = s.error := rfl
@[simp] theorem State.appendBlocks_exitStatus (b : Blocks) : (s.appendBlocks b).exitStatus = s.exitStatus := rfl
@[simp] theorem State.appendBlocks_files (b : Blocks) : (s.appendBlocks b).files = s.files := rfl
@[simp] theorem State.appendBlocks_launches (b : Blocks) : (s.appendBlocks b).launches = s.launches := rfl
@[simp] theorem State.appendBlocks_freeCount (b : Blocks) : (s.appendBlocks b).freeCount = s.freeCount := rfl

/-! ### resetBlock -/

@[simp] theorem State.resetBlock_grid : (s.resetBlock).grid = s.grid := rfl
@[simp] theorem State.resetBlock_mode : (s.resetBlock).mode = 0#2 := rfl
@[simp] theorem State.resetBlock_colOff : (s.resetBlock).colOff = 0 := rfl
@[simp] theorem State.resetBlock_rowOff : (s.resetBlock).rowOff = 0 := rfl
@[simp] theorem State.resetBlock_operandsHeld : (s.resetBlock).operandsHeld = false := rfl
@[simp] theorem State.resetBlock_planar : (s.resetBlock).planar = [] := rfl
@[simp] theorem State.resetBlock_linear : (s.resetBlock).linear = [] := rfl
@[simp] theorem State.resetBlock_faultValid : (s.resetBlock).faultValid = false := rfl
@[simp] theorem State.resetBlock_faultCode : (s.resetBlock).faultCode = 0#2 := rfl
@[simp] theorem State.resetBlock_colourMode : (s.resetBlock).colourMode = s.colourMode := rfl
@[simp] theorem State.resetBlock_config : (s.resetBlock).config = s.config := rfl
@[simp] theorem State.resetBlock_walkRow : (s.resetBlock).walkRow = 0 := rfl
@[simp] theorem State.resetBlock_walkCol : (s.resetBlock).walkCol = 0 := rfl
@[simp] theorem State.resetBlock_phase : (s.resetBlock).phase = s.phase := rfl
@[simp] theorem State.resetBlock_program : (s.resetBlock).program = s.program := rfl
@[simp] theorem State.resetBlock_commandLine : (s.resetBlock).commandLine = s.commandLine := rfl
@[simp] theorem State.resetBlock_image : (s.resetBlock).image = s.image := rfl
@[simp] theorem State.resetBlock_planarWritable : (s.resetBlock).planarWritable = s.planarWritable := rfl
@[simp] theorem State.resetBlock_linearWritable : (s.resetBlock).linearWritable = s.linearWritable := rfl
@[simp] theorem State.resetBlock_error : (s.resetBlock).error = s.error := rfl
@[simp] theorem State.resetBlock_exitStatus : (s.resetBlock).exitStatus = s.exitStatus := rfl
@[simp] theorem State.resetBlock_files : (s.resetBlock).files = s.files := rfl
@[simp] theorem State.resetBlock_launches : (s.resetBlock).launches = s.launches := rfl
@[simp] theorem State.resetBlock_freeCount : (s.resetBlock).freeCount = s.freeCount := rfl

/-! ### withCursor -/

@[simp] theorem State.withCursor_grid (row col : Nat) : (s.withCursor row col).grid = s.grid := rfl
@[simp] theorem State.withCursor_mode (row col : Nat) : (s.withCursor row col).mode = s.mode := rfl
@[simp] theorem State.withCursor_colOff (row col : Nat) : (s.withCursor row col).colOff = s.colOff := rfl
@[simp] theorem State.withCursor_rowOff (row col : Nat) : (s.withCursor row col).rowOff = s.rowOff := rfl
@[simp] theorem State.withCursor_operandsHeld (row col : Nat) : (s.withCursor row col).operandsHeld = s.operandsHeld := rfl
@[simp] theorem State.withCursor_planar (row col : Nat) : (s.withCursor row col).planar = s.planar := rfl
@[simp] theorem State.withCursor_linear (row col : Nat) : (s.withCursor row col).linear = s.linear := rfl
@[simp] theorem State.withCursor_faultValid (row col : Nat) : (s.withCursor row col).faultValid = s.faultValid := rfl
@[simp] theorem State.withCursor_faultCode (row col : Nat) : (s.withCursor row col).faultCode = s.faultCode := rfl
@[simp] theorem State.withCursor_colourMode (row col : Nat) : (s.withCursor row col).colourMode = s.colourMode := rfl
@[simp] theorem State.withCursor_config (row col : Nat) : (s.withCursor row col).config = s.config := rfl
@[simp] theorem State.withCursor_walkRow (row col : Nat) : (s.withCursor row col).walkRow = row := rfl
@[simp] theorem State.withCursor_walkCol (row col : Nat) : (s.withCursor row col).walkCol = col := rfl
@[simp] theorem State.withCursor_phase (row col : Nat) : (s.withCursor row col).phase = s.phase := rfl
@[simp] theorem State.withCursor_program (row col : Nat) : (s.withCursor row col).program = s.program := rfl
@[simp] theorem State.withCursor_commandLine (row col : Nat) : (s.withCursor row col).commandLine = s.commandLine := rfl
@[simp] theorem State.withCursor_image (row col : Nat) : (s.withCursor row col).image = s.image := rfl
@[simp] theorem State.withCursor_planarWritable (row col : Nat) : (s.withCursor row col).planarWritable = s.planarWritable := rfl
@[simp] theorem State.withCursor_linearWritable (row col : Nat) : (s.withCursor row col).linearWritable = s.linearWritable := rfl
@[simp] theorem State.withCursor_error (row col : Nat) : (s.withCursor row col).error = s.error := rfl
@[simp] theorem State.withCursor_exitStatus (row col : Nat) : (s.withCursor row col).exitStatus = s.exitStatus := rfl
@[simp] theorem State.withCursor_files (row col : Nat) : (s.withCursor row col).files = s.files := rfl
@[simp] theorem State.withCursor_launches (row col : Nat) : (s.withCursor row col).launches = s.launches := rfl
@[simp] theorem State.withCursor_freeCount (row col : Nat) : (s.withCursor row col).freeCount = s.freeCount := rfl

/-! ### withPhase -/

@[simp] theorem State.withPhase_grid (p : Phase) : (s.withPhase p).grid = s.grid := rfl
@[simp] theorem State.withPhase_mode (p : Phase) : (s.withPhase p).mode = s.mode := rfl
@[simp] theorem State.withPhase_colOff (p : Phase) : (s.withPhase p).colOff = s.colOff := rfl
@[simp] theorem State.withPhase_rowOff (p : Phase) : (s.withPhase p).rowOff = s.rowOff := rfl
@[simp] theorem State.withPhase_operandsHeld (p : Phase) : (s.withPhase p).operandsHeld = s.operandsHeld := rfl
@[simp] theorem State.withPhase_planar (p : Phase) : (s.withPhase p).planar = s.planar := rfl
@[simp] theorem State.withPhase_linear (p : Phase) : (s.withPhase p).linear = s.linear := rfl
@[simp] theorem State.withPhase_faultValid (p : Phase) : (s.withPhase p).faultValid = s.faultValid := rfl
@[simp] theorem State.withPhase_faultCode (p : Phase) : (s.withPhase p).faultCode = s.faultCode := rfl
@[simp] theorem State.withPhase_colourMode (p : Phase) : (s.withPhase p).colourMode = s.colourMode := rfl
@[simp] theorem State.withPhase_config (p : Phase) : (s.withPhase p).config = s.config := rfl
@[simp] theorem State.withPhase_walkRow (p : Phase) : (s.withPhase p).walkRow = s.walkRow := rfl
@[simp] theorem State.withPhase_walkCol (p : Phase) : (s.withPhase p).walkCol = s.walkCol := rfl
@[simp] theorem State.withPhase_phase (p : Phase) : (s.withPhase p).phase = p := rfl
@[simp] theorem State.withPhase_program (p : Phase) : (s.withPhase p).program = s.program := rfl
@[simp] theorem State.withPhase_commandLine (p : Phase) : (s.withPhase p).commandLine = s.commandLine := rfl
@[simp] theorem State.withPhase_image (p : Phase) : (s.withPhase p).image = s.image := rfl
@[simp] theorem State.withPhase_planarWritable (p : Phase) : (s.withPhase p).planarWritable = s.planarWritable := rfl
@[simp] theorem State.withPhase_linearWritable (p : Phase) : (s.withPhase p).linearWritable = s.linearWritable := rfl
@[simp] theorem State.withPhase_error (p : Phase) : (s.withPhase p).error = s.error := rfl
@[simp] theorem State.withPhase_exitStatus (p : Phase) : (s.withPhase p).exitStatus = s.exitStatus := rfl
@[simp] theorem State.withPhase_files (p : Phase) : (s.withPhase p).files = s.files := rfl
@[simp] theorem State.withPhase_launches (p : Phase) : (s.withPhase p).launches = s.launches := rfl
@[simp] theorem State.withPhase_freeCount (p : Phase) : (s.withPhase p).freeCount = s.freeCount := rfl

/-! ### withProgram -/

@[simp] theorem State.withProgram_grid (p : HostProgram) : (s.withProgram p).grid = s.grid := rfl
@[simp] theorem State.withProgram_mode (p : HostProgram) : (s.withProgram p).mode = s.mode := rfl
@[simp] theorem State.withProgram_colOff (p : HostProgram) : (s.withProgram p).colOff = s.colOff := rfl
@[simp] theorem State.withProgram_rowOff (p : HostProgram) : (s.withProgram p).rowOff = s.rowOff := rfl
@[simp] theorem State.withProgram_operandsHeld (p : HostProgram) : (s.withProgram p).operandsHeld = s.operandsHeld := rfl
@[simp] theorem State.withProgram_planar (p : HostProgram) : (s.withProgram p).planar = s.planar := rfl
@[simp] theorem State.withProgram_linear (p : HostProgram) : (s.withProgram p).linear = s.linear := rfl
@[simp] theorem State.withProgram_faultValid (p : HostProgram) : (s.withProgram p).faultValid = s.faultValid := rfl
@[simp] theorem State.withProgram_faultCode (p : HostProgram) : (s.withProgram p).faultCode = s.faultCode := rfl
@[simp] theorem State.withProgram_colourMode (p : HostProgram) : (s.withProgram p).colourMode = s.colourMode := rfl
@[simp] theorem State.withProgram_config (p : HostProgram) : (s.withProgram p).config = s.config := rfl
@[simp] theorem State.withProgram_walkRow (p : HostProgram) : (s.withProgram p).walkRow = s.walkRow := rfl
@[simp] theorem State.withProgram_walkCol (p : HostProgram) : (s.withProgram p).walkCol = s.walkCol := rfl
@[simp] theorem State.withProgram_phase (p : HostProgram) : (s.withProgram p).phase = s.phase := rfl
@[simp] theorem State.withProgram_program (p : HostProgram) : (s.withProgram p).program = p := rfl
@[simp] theorem State.withProgram_commandLine (p : HostProgram) : (s.withProgram p).commandLine = s.commandLine := rfl
@[simp] theorem State.withProgram_image (p : HostProgram) : (s.withProgram p).image = s.image := rfl
@[simp] theorem State.withProgram_planarWritable (p : HostProgram) : (s.withProgram p).planarWritable = s.planarWritable := rfl
@[simp] theorem State.withProgram_linearWritable (p : HostProgram) : (s.withProgram p).linearWritable = s.linearWritable := rfl
@[simp] theorem State.withProgram_error (p : HostProgram) : (s.withProgram p).error = s.error := rfl
@[simp] theorem State.withProgram_exitStatus (p : HostProgram) : (s.withProgram p).exitStatus = s.exitStatus := rfl
@[simp] theorem State.withProgram_files (p : HostProgram) : (s.withProgram p).files = s.files := rfl
@[simp] theorem State.withProgram_launches (p : HostProgram) : (s.withProgram p).launches = s.launches := rfl
@[simp] theorem State.withProgram_freeCount (p : HostProgram) : (s.withProgram p).freeCount = s.freeCount := rfl

/-! ### endRun -/

@[simp] theorem State.endRun_grid (e : Option RunError) (n : Nat) (fs : List OutFile) : (s.endRun e n fs).grid = s.grid := rfl
@[simp] theorem State.endRun_mode (e : Option RunError) (n : Nat) (fs : List OutFile) : (s.endRun e n fs).mode = s.mode := rfl
@[simp] theorem State.endRun_colOff (e : Option RunError) (n : Nat) (fs : List OutFile) : (s.endRun e n fs).colOff = s.colOff := rfl
@[simp] theorem State.endRun_rowOff (e : Option RunError) (n : Nat) (fs : List OutFile) : (s.endRun e n fs).rowOff = s.rowOff := rfl
@[simp] theorem State.endRun_operandsHeld (e : Option RunError) (n : Nat) (fs : List OutFile) : (s.endRun e n fs).operandsHeld = s.operandsHeld := rfl
@[simp] theorem State.endRun_planar (e : Option RunError) (n : Nat) (fs : List OutFile) : (s.endRun e n fs).planar = s.planar := rfl
@[simp] theorem State.endRun_linear (e : Option RunError) (n : Nat) (fs : List OutFile) : (s.endRun e n fs).linear = s.linear := rfl
@[simp] theorem State.endRun_faultValid (e : Option RunError) (n : Nat) (fs : List OutFile) : (s.endRun e n fs).faultValid = s.faultValid := rfl
@[simp] theorem State.endRun_faultCode (e : Option RunError) (n : Nat) (fs : List OutFile) : (s.endRun e n fs).faultCode = s.faultCode := rfl
@[simp] theorem State.endRun_colourMode (e : Option RunError) (n : Nat) (fs : List OutFile) : (s.endRun e n fs).colourMode = s.colourMode := rfl
@[simp] theorem State.endRun_config (e : Option RunError) (n : Nat) (fs : List OutFile) : (s.endRun e n fs).config = s.config := rfl
@[simp] theorem State.endRun_walkRow (e : Option RunError) (n : Nat) (fs : List OutFile) : (s.endRun e n fs).walkRow = s.walkRow := rfl
@[simp] theorem State.endRun_walkCol (e : Option RunError) (n : Nat) (fs : List OutFile) : (s.endRun e n fs).walkCol = s.walkCol := rfl
@[simp] theorem State.endRun_phase (e : Option RunError) (n : Nat) (fs : List OutFile) : (s.endRun e n fs).phase = .ended := rfl
@[simp] theorem State.endRun_program (e : Option RunError) (n : Nat) (fs : List OutFile) : (s.endRun e n fs).program = s.program := rfl
@[simp] theorem State.endRun_commandLine (e : Option RunError) (n : Nat) (fs : List OutFile) : (s.endRun e n fs).commandLine = s.commandLine := rfl
@[simp] theorem State.endRun_image (e : Option RunError) (n : Nat) (fs : List OutFile) : (s.endRun e n fs).image = s.image := rfl
@[simp] theorem State.endRun_planarWritable (e : Option RunError) (n : Nat) (fs : List OutFile) : (s.endRun e n fs).planarWritable = s.planarWritable := rfl
@[simp] theorem State.endRun_linearWritable (e : Option RunError) (n : Nat) (fs : List OutFile) : (s.endRun e n fs).linearWritable = s.linearWritable := rfl
@[simp] theorem State.endRun_error (e : Option RunError) (n : Nat) (fs : List OutFile) : (s.endRun e n fs).error = e := rfl
@[simp] theorem State.endRun_exitStatus (e : Option RunError) (n : Nat) (fs : List OutFile) : (s.endRun e n fs).exitStatus = some n := rfl
@[simp] theorem State.endRun_files (e : Option RunError) (n : Nat) (fs : List OutFile) : (s.endRun e n fs).files = fs := rfl
@[simp] theorem State.endRun_launches (e : Option RunError) (n : Nat) (fs : List OutFile) : (s.endRun e n fs).launches = s.launches := rfl
@[simp] theorem State.endRun_freeCount (e : Option RunError) (n : Nat) (fs : List OutFile) : (s.endRun e n fs).freeCount = s.freeCount := rfl

/-! ### withCommand -/

@[simp] theorem State.withCommand_grid (c : Command) : (s.withCommand c).grid = s.grid := rfl
@[simp] theorem State.withCommand_mode (c : Command) : (s.withCommand c).mode = s.mode := rfl
@[simp] theorem State.withCommand_colOff (c : Command) : (s.withCommand c).colOff = s.colOff := rfl
@[simp] theorem State.withCommand_rowOff (c : Command) : (s.withCommand c).rowOff = s.rowOff := rfl
@[simp] theorem State.withCommand_operandsHeld (c : Command) : (s.withCommand c).operandsHeld = s.operandsHeld := rfl
@[simp] theorem State.withCommand_planar (c : Command) : (s.withCommand c).planar = s.planar := rfl
@[simp] theorem State.withCommand_linear (c : Command) : (s.withCommand c).linear = s.linear := rfl
@[simp] theorem State.withCommand_faultValid (c : Command) : (s.withCommand c).faultValid = s.faultValid := rfl
@[simp] theorem State.withCommand_faultCode (c : Command) : (s.withCommand c).faultCode = s.faultCode := rfl
@[simp] theorem State.withCommand_colourMode (c : Command) : (s.withCommand c).colourMode = s.colourMode := rfl
@[simp] theorem State.withCommand_config (c : Command) : (s.withCommand c).config = s.config := rfl
@[simp] theorem State.withCommand_walkRow (c : Command) : (s.withCommand c).walkRow = s.walkRow := rfl
@[simp] theorem State.withCommand_walkCol (c : Command) : (s.withCommand c).walkCol = s.walkCol := rfl
@[simp] theorem State.withCommand_phase (c : Command) : (s.withCommand c).phase = .commands := rfl
@[simp] theorem State.withCommand_program (c : Command) : (s.withCommand c).program = .direct [c] := rfl
@[simp] theorem State.withCommand_commandLine (c : Command) : (s.withCommand c).commandLine = s.commandLine := rfl
@[simp] theorem State.withCommand_image (c : Command) : (s.withCommand c).image = s.image := rfl
@[simp] theorem State.withCommand_planarWritable (c : Command) : (s.withCommand c).planarWritable = s.planarWritable := rfl
@[simp] theorem State.withCommand_linearWritable (c : Command) : (s.withCommand c).linearWritable = s.linearWritable := rfl
@[simp] theorem State.withCommand_error (c : Command) : (s.withCommand c).error = s.error := rfl
@[simp] theorem State.withCommand_exitStatus (c : Command) : (s.withCommand c).exitStatus = s.exitStatus := rfl
@[simp] theorem State.withCommand_files (c : Command) : (s.withCommand c).files = s.files := rfl
@[simp] theorem State.withCommand_launches (c : Command) : (s.withCommand c).launches = s.launches := rfl
@[simp] theorem State.withCommand_freeCount (c : Command) : (s.withCommand c).freeCount = s.freeCount := rfl

/-! ### beginRun -/

@[simp] theorem State.beginRun_grid (l : Launch) (ls : List Launch) : (s.beginRun l ls).grid = State.reset.grid := rfl
@[simp] theorem State.beginRun_mode (l : Launch) (ls : List Launch) : (s.beginRun l ls).mode = State.reset.mode := rfl
@[simp] theorem State.beginRun_colOff (l : Launch) (ls : List Launch) : (s.beginRun l ls).colOff = State.reset.colOff := rfl
@[simp] theorem State.beginRun_rowOff (l : Launch) (ls : List Launch) : (s.beginRun l ls).rowOff = State.reset.rowOff := rfl
@[simp] theorem State.beginRun_operandsHeld (l : Launch) (ls : List Launch) : (s.beginRun l ls).operandsHeld = State.reset.operandsHeld := rfl
@[simp] theorem State.beginRun_planar (l : Launch) (ls : List Launch) : (s.beginRun l ls).planar = State.reset.planar := rfl
@[simp] theorem State.beginRun_linear (l : Launch) (ls : List Launch) : (s.beginRun l ls).linear = State.reset.linear := rfl
@[simp] theorem State.beginRun_faultValid (l : Launch) (ls : List Launch) : (s.beginRun l ls).faultValid = State.reset.faultValid := rfl
@[simp] theorem State.beginRun_faultCode (l : Launch) (ls : List Launch) : (s.beginRun l ls).faultCode = State.reset.faultCode := rfl
@[simp] theorem State.beginRun_colourMode (l : Launch) (ls : List Launch) : (s.beginRun l ls).colourMode = State.reset.colourMode := rfl
@[simp] theorem State.beginRun_config (l : Launch) (ls : List Launch) : (s.beginRun l ls).config = State.reset.config := rfl
@[simp] theorem State.beginRun_walkRow (l : Launch) (ls : List Launch) : (s.beginRun l ls).walkRow = State.reset.walkRow := rfl
@[simp] theorem State.beginRun_walkCol (l : Launch) (ls : List Launch) : (s.beginRun l ls).walkCol = State.reset.walkCol := rfl
@[simp] theorem State.beginRun_phase (l : Launch) (ls : List Launch) : (s.beginRun l ls).phase = .decode := rfl
@[simp] theorem State.beginRun_program (l : Launch) (ls : List Launch) : (s.beginRun l ls).program = l.program := rfl
@[simp] theorem State.beginRun_commandLine (l : Launch) (ls : List Launch) : (s.beginRun l ls).commandLine = l.commandLine := rfl
@[simp] theorem State.beginRun_image (l : Launch) (ls : List Launch) : (s.beginRun l ls).image = l.image := rfl
@[simp] theorem State.beginRun_planarWritable (l : Launch) (ls : List Launch) : (s.beginRun l ls).planarWritable = l.planarWritable := rfl
@[simp] theorem State.beginRun_linearWritable (l : Launch) (ls : List Launch) : (s.beginRun l ls).linearWritable = l.linearWritable := rfl
@[simp] theorem State.beginRun_error (l : Launch) (ls : List Launch) : (s.beginRun l ls).error = State.reset.error := rfl
@[simp] theorem State.beginRun_exitStatus (l : Launch) (ls : List Launch) : (s.beginRun l ls).exitStatus = State.reset.exitStatus := rfl
@[simp] theorem State.beginRun_files (l : Launch) (ls : List Launch) : (s.beginRun l ls).files = State.reset.files := rfl
@[simp] theorem State.beginRun_launches (l : Launch) (ls : List Launch) : (s.beginRun l ls).launches = ls := rfl
@[simp] theorem State.beginRun_freeCount (l : Launch) (ls : List Launch) : (s.beginRun l ls).freeCount = s.freeCount := rfl

/-! ### raiseFault: it touches the latch and nothing else (R137) -/

@[simp] theorem State.raiseFault_grid (k : FaultCause) : (s.raiseFault k).grid = s.grid := by
  unfold State.raiseFault; split <;> rfl
@[simp] theorem State.raiseFault_mode (k : FaultCause) : (s.raiseFault k).mode = s.mode := by
  unfold State.raiseFault; split <;> rfl
@[simp] theorem State.raiseFault_colOff (k : FaultCause) : (s.raiseFault k).colOff = s.colOff := by
  unfold State.raiseFault; split <;> rfl
@[simp] theorem State.raiseFault_rowOff (k : FaultCause) : (s.raiseFault k).rowOff = s.rowOff := by
  unfold State.raiseFault; split <;> rfl
@[simp] theorem State.raiseFault_operandsHeld (k : FaultCause) : (s.raiseFault k).operandsHeld = s.operandsHeld := by
  unfold State.raiseFault; split <;> rfl
@[simp] theorem State.raiseFault_planar (k : FaultCause) : (s.raiseFault k).planar = s.planar := by
  unfold State.raiseFault; split <;> rfl
@[simp] theorem State.raiseFault_linear (k : FaultCause) : (s.raiseFault k).linear = s.linear := by
  unfold State.raiseFault; split <;> rfl
@[simp] theorem State.raiseFault_colourMode (k : FaultCause) : (s.raiseFault k).colourMode = s.colourMode := by
  unfold State.raiseFault; split <;> rfl
@[simp] theorem State.raiseFault_config (k : FaultCause) : (s.raiseFault k).config = s.config := by
  unfold State.raiseFault; split <;> rfl
@[simp] theorem State.raiseFault_walkRow (k : FaultCause) : (s.raiseFault k).walkRow = s.walkRow := by
  unfold State.raiseFault; split <;> rfl
@[simp] theorem State.raiseFault_walkCol (k : FaultCause) : (s.raiseFault k).walkCol = s.walkCol := by
  unfold State.raiseFault; split <;> rfl
@[simp] theorem State.raiseFault_phase (k : FaultCause) : (s.raiseFault k).phase = s.phase := by
  unfold State.raiseFault; split <;> rfl
@[simp] theorem State.raiseFault_program (k : FaultCause) : (s.raiseFault k).program = s.program := by
  unfold State.raiseFault; split <;> rfl
@[simp] theorem State.raiseFault_commandLine (k : FaultCause) : (s.raiseFault k).commandLine = s.commandLine := by
  unfold State.raiseFault; split <;> rfl
@[simp] theorem State.raiseFault_image (k : FaultCause) : (s.raiseFault k).image = s.image := by
  unfold State.raiseFault; split <;> rfl
@[simp] theorem State.raiseFault_planarWritable (k : FaultCause) : (s.raiseFault k).planarWritable = s.planarWritable := by
  unfold State.raiseFault; split <;> rfl
@[simp] theorem State.raiseFault_linearWritable (k : FaultCause) : (s.raiseFault k).linearWritable = s.linearWritable := by
  unfold State.raiseFault; split <;> rfl
@[simp] theorem State.raiseFault_error (k : FaultCause) : (s.raiseFault k).error = s.error := by
  unfold State.raiseFault; split <;> rfl
@[simp] theorem State.raiseFault_exitStatus (k : FaultCause) : (s.raiseFault k).exitStatus = s.exitStatus := by
  unfold State.raiseFault; split <;> rfl
@[simp] theorem State.raiseFault_files (k : FaultCause) : (s.raiseFault k).files = s.files := by
  unfold State.raiseFault; split <;> rfl
@[simp] theorem State.raiseFault_launches (k : FaultCause) : (s.raiseFault k).launches = s.launches := by
  unfold State.raiseFault; split <;> rfl
@[simp] theorem State.raiseFault_freeCount (k : FaultCause) : (s.raiseFault k).freeCount = s.freeCount := by
  unfold State.raiseFault; split <;> rfl

@[simp] theorem State.raiseFault_faultValid (k : FaultCause) : (s.raiseFault k).faultValid = true := by
  unfold State.raiseFault; split
  · assumption
  · rfl

theorem State.raiseFault_faultCode (k : FaultCause) (h : s.faultValid = false) :
    (s.raiseFault k).faultCode = k.code := by
  simp [State.raiseFault, h]

/-- A set latch keeps its first code (R27, R137). -/
theorem State.raiseFault_of_latched (k : FaultCause) (h : s.faultValid = true) : s.raiseFault k = s := by
  simp [State.raiseFault, h]

end Sys2Proof.Machine
end

