-- ==== Sys2Proof/Laws/Perform.lean ====
section
/-! SUPPORT. What the shared operations can do: reading a window, performing a command, passing an outcome on. -/

namespace Sys2Proof.Machine

/-- A window inside the grid is read without a fault. -/
theorem Grid.readWindow_of_fits {g : Grid} {side colOff rowOff : Nat} (h : g.fits side colOff rowOff) :
    g.readWindow side colOff rowOff = .ok (g.windowAt colOff rowOff) := by
  obtain ⟨hrow, hcol⟩ := h
  refine if_pos ?_
  simp only [List.all_eq_true, List.mem_range]
  intro r hr c hc
  simp [Grid.pix, show rowOff + r < g.height by omega, show colOff + c < g.width by omega]

/-- A command is not performed while the latch is set (R137). -/
theorem perform_of_latched (c : Command) (side : Nat) (blocks : Window → Blocks) {s : State}
    (h : s.faultValid = true) : perform c side blocks s = .next s := by
  simp [perform, h]

/-- A command whose window fits appends its blocks whole (R49). -/
theorem perform_of_fits {c : Command} {side : Nat} (blocks : Window → Blocks) {s : State}
    (h : s.faultValid = false) (hfits : s.grid.fits side c.colOff c.rowOff) :
    perform c side blocks s =
      .next ((s.withOperands c).appendBlocks (blocks (s.grid.windowAt c.colOff c.rowOff))) := by
  simp only [perform, h, Bool.false_eq_true, if_false]
  rw [if_pos hfits, Grid.readWindow_of_fits hfits]

/-- A command whose window leaves the grid sets the latch to WINDOW_OOB (R132). -/
theorem perform_of_not_fits {c : Command} {side : Nat} (blocks : Window → Blocks) {s : State}
    (h : s.faultValid = false) (hfits : ¬ s.grid.fits side c.colOff c.rowOff) :
    perform c side blocks s = .next ((s.withOperands c).raiseFault .windowOob) := by
  simp only [perform, h, Bool.false_eq_true, if_false]
  rw [if_neg hfits]

/-- All that performing a command can do. -/
theorem perform_cases (c : Command) (side : Nat) (blocks : Window → Blocks) (s : State) :
    (s.faultValid = true ∧ perform c side blocks s = .next s) ∨
    (s.faultValid = false ∧ s.grid.fits side c.colOff c.rowOff ∧
      perform c side blocks s =
        .next ((s.withOperands c).appendBlocks (blocks (s.grid.windowAt c.colOff c.rowOff)))) ∨
    (s.faultValid = false ∧ ¬ s.grid.fits side c.colOff c.rowOff ∧
      perform c side blocks s = .next ((s.withOperands c).raiseFault .windowOob)) := by
  cases h : s.faultValid
  · by_cases hfits : s.grid.fits side c.colOff c.rowOff
    · exact .inr (.inl ⟨rfl, hfits, perform_of_fits blocks h hfits⟩)
    · exact .inr (.inr ⟨rfl, hfits, perform_of_not_fits blocks h hfits⟩)
  · exact .inl ⟨rfl, perform_of_latched c side blocks h⟩

end Sys2Proof.Machine
end

