-- ==== Sys2Proof/Laws/Exec.lean ====
section
/-! SUPPORT. `exec`, `issue` and `step` in terms of the shared operations: one equation per operation and per phase. -/

namespace Sys2Proof.Machine

/-- The window side of an operation (R59). -/
def opSide : Instr → Nat
  | .encSprite16 _ _ => 16
  | .encTile8 _ _ => 8
  | .encMeta16 _ _ => 16

/-- The blocks an operation appends (R76, R91, R105). -/
def opBlocks : Instr → Window → Blocks
  | .encSprite16 _ _ => spriteBlocks
  | .encTile8 _ _ => tileBlocks
  | .encMeta16 _ _ => metaBlocks

/-- Every operation is its command, performed. -/
theorem exec_eq_perform (i : Instr) (s : State) :
    exec i s = perform (encode i) (opSide i) (opBlocks i) s := by
  cases i <;> rfl

@[simp] theorem encode_colOff (i : Instr) : (encode i).colOff = i.colOff := by cases i <;> rfl

@[simp] theorem encode_rowOff (i : Instr) : (encode i).rowOff = i.rowOff := by cases i <;> rfl

/-- All that an operation can do. -/
theorem exec_cases (i : Instr) (s : State) :
    (s.faultValid = true ∧ exec i s = .next s) ∨
    (s.faultValid = false ∧ s.grid.fits (opSide i) i.colOff i.rowOff ∧
      exec i s = .next ((s.withOperands (encode i)).appendBlocks
        (opBlocks i (s.grid.windowAt i.colOff i.rowOff)))) ∨
    (s.faultValid = false ∧ ¬ s.grid.fits (opSide i) i.colOff i.rowOff ∧
      exec i s = .next ((s.withOperands (encode i)).raiseFault .windowOob)) := by
  simpa only [exec_eq_perform, encode_colOff, encode_rowOff] using
    perform_cases (encode i) (opSide i) (opBlocks i) s

theorem issue_of_operation {c : Command} {i : Instr} (s : State) (h : decode c = .operation i) :
    issue c s = exec i s := by
  simp [issue, h]

theorem issue_of_reserved {c : Command} (s : State) (h : decode c = .reserved) :
    issue c s = .next (performReserved c s) := by
  simp [issue, h]

@[simp] theorem thenNext_next (s : State) (f : State → State) : thenNext (.next s) f = .next (f s) := rfl

theorem step_idle {s : State} (h : s.phase = .idle) : step s = .next (waitStep s) := by
  simp [step, systemStep, h]

theorem step_ended {s : State} (h : s.phase = .ended) : step s = .next (waitStep s) := by
  simp [step, systemStep, h]

theorem step_decode {s : State} (h : s.phase = .decode) : step s = .next (decodeStep s) := by
  simp [step, systemStep, h]

theorem step_colourCheck {s : State} (h : s.phase = .colourCheck) :
    step s = .next (colourCheckStep s) := by
  simp [step, systemStep, h]

theorem step_configure {s : State} (h : s.phase = .configure) : step s = .next (configureStep s) := by
  simp [step, systemStep, h]

theorem step_resetBlock {s : State} (h : s.phase = .resetBlock) :
    step s = .next (s.resetBlock.withPhase .commands) := by
  simp [step, systemStep, h]

theorem step_write {s : State} (h : s.phase = .write) : step s = .next (writeStep s) := by
  simp [step, systemStep, h]

theorem step_convert {s : State} (h : s.phase = .commands) (hp : s.program = .convert) :
    step s = walkStep s := by
  simp [step, systemStep, commandStep, h, hp]

theorem step_direct_done {s : State} (h : s.phase = .commands) (hp : s.program = .direct []) :
    step s = .next (s.withPhase .write) := by
  simp [step, systemStep, commandStep, h, hp]

theorem step_direct {s : State} {c : Command} {rest : List Command} (h : s.phase = .commands)
    (hp : s.program = .direct (c :: rest)) : step s = issue c (s.withProgram (.direct rest)) := by
  simp [step, systemStep, commandStep, h, hp]

end Sys2Proof.Machine
end

