-- ==== Sys2Proof/Laws/Memory.lean ====
section
/-! SUPPORT. The grid's memory: what a write leaves, and that every memory operation keeps the canonical form. -/

namespace Sys2Proof.Machine

/-- Every listed cell lies above `a`. -/
abbrev Memory.Above (a : Nat) (m : Memory) : Prop := ∀ d ∈ m, a < d.1

/-- The canonical form, cell by cell: the head is worth listing and lies below a canonical tail. -/
theorem Memory.wf_cons (c : Host.Cell) (m : Memory) :
    Memory.wf (c :: m) = true ↔
      c.2 ≠ Memory.unlisted ∧ Memory.Above c.1 m ∧ Memory.wf m = true := by
  induction m generalizing c with
  | nil => simp [Memory.wf, Memory.Above]
  | cons d rest ih =>
    simp only [Memory.wf, Bool.and_eq_true, bne_iff_ne, ne_eq, decide_eq_true_eq, Memory.Above,
      List.mem_cons, forall_eq_or_imp]
    constructor
    · rintro ⟨⟨hc, hlt⟩, hrest⟩
      exact ⟨hc, ⟨hlt, fun e he => hlt.trans (((ih d).mp hrest).2.1 e he)⟩, hrest⟩
    · rintro ⟨hc, ⟨hlt, _⟩, hrest⟩
      exact ⟨⟨hc, hlt⟩, hrest⟩

/-- A write adds no cell but its own. -/
theorem Memory.mem_write {m : Memory} {a : Nat} {v : Byte} {d : Host.Cell}
    (h : d ∈ Memory.write m a v) : d = (a, v) ∨ d ∈ m := by
  induction m with
  | nil =>
    simp only [Memory.write] at h
    split at h <;> simp_all
  | cons c rest ih =>
    simp only [Memory.write] at h
    split at h
    · rcases List.mem_cons.mp h with rfl | h
      · simp
      · rcases ih h with h | h <;> simp [h]
    · split at h
      all_goals
        split at h
        all_goals simp_all
        try tauto

/-- A write keeps the canonical form. -/
theorem Memory.write_wf {m : Memory} (a : Nat) (v : Byte) (h : Memory.wf m = true) :
    Memory.wf (Memory.write m a v) = true := by
  induction m with
  | nil =>
    simp only [Memory.write]
    split
    · rfl
    · simpa [Memory.wf] using ‹_›
  | cons c rest ih =>
    obtain ⟨hc, habove, hrest⟩ := (Memory.wf_cons c rest).mp h
    simp only [Memory.write]
    split
    case isTrue hlt =>
      refine (Memory.wf_cons _ _).mpr ⟨hc, fun d hd => ?_, ih hrest⟩
      rcases Memory.mem_write hd with rfl | hd
      · exact hlt
      · exact habove d hd
    case isFalse hge =>
      have tail : ∀ t : Memory, Memory.Above a t → Memory.wf t = true →
          Memory.wf (if v = Memory.unlisted then t else (a, v) :: t) = true := by
        intro t ht hwf
        split
        · exact hwf
        · exact (Memory.wf_cons _ _).mpr ⟨‹_›, ht, hwf⟩
      by_cases heq : c.1 = a
      · simpa only [heq, if_true] using tail rest (heq ▸ habove) hrest
      · have hlt : a < c.1 := by omega
        have hall : Memory.Above a (c :: rest) := by
          intro d hd
          rcases List.mem_cons.mp hd with rfl | hd
          · exact hlt
          · exact hlt.trans (habove d hd)
        simpa only [heq, if_false] using tail (c :: rest) hall h

/-- Nothing is listed at or below an index that all cells lie above. -/
theorem Memory.read_of_above {m : Memory} {a b : Nat} (h : Memory.Above a m) (hb : b ≤ a) :
    Memory.read m b = Memory.unlisted := by
  induction m with
  | nil => rfl
  | cons c rest ih =>
    have hc : c.1 ≠ b := by have := h c (by simp); omega
    simp only [Memory.read, hc, if_false]
    exact ih fun d hd => h d (by simp [hd])

/-- A read after a write: the value at its own index, the old value elsewhere. -/
theorem Memory.read_write {m : Memory} (a b : Nat) (v : Byte) (h : Memory.wf m = true) :
    Memory.read (Memory.write m a v) b = if b = a then v else Memory.read m b := by
  induction m with
  | nil =>
    simp only [Memory.write]
    by_cases hv : v = Memory.unlisted
    · simp [hv, Memory.read]
    · by_cases hb : b = a
      · simp [hv, hb, Memory.read]
      · simp [hv, hb, Memory.read, Ne.symm hb]
  | cons c rest ih =>
    obtain ⟨-, habove, hrest⟩ := (Memory.wf_cons c rest).mp h
    simp only [Memory.write]
    split
    case isTrue hlt =>
      simp only [Memory.read, ih hrest]
      split <;> split <;> simp_all
    case isFalse hge =>
      by_cases heq : c.1 = a
      · simp only [heq, if_true]
        by_cases hv : v = Memory.unlisted
        · by_cases hb : b = a
          · simp [hv, hb, Memory.read_of_above (heq ▸ habove) le_rfl]
          · simp [hv, hb, Memory.read, heq, Ne.symm hb]
        · by_cases hb : b = a
          · simp [hv, hb, Memory.read]
          · simp [hv, hb, Memory.read, heq, Ne.symm hb]
      · simp only [heq, if_false]
        have habove' : Memory.Above a (c :: rest) := by
          intro d hd
          rcases List.mem_cons.mp hd with rfl | hd
          · omega
          · have := habove d hd; omega
        by_cases hv : v = Memory.unlisted
        · by_cases hb : b = a
          · simp [hv, hb, Memory.read_of_above habove' le_rfl]
          · simp [hv, hb]
        · by_cases hb : b = a
          · simp [hv, hb, Memory.read]
          · rw [if_neg hv, if_neg hb]
            simp [Memory.read, Ne.symm hb]

/-- Placing an entry inside the grid keeps the grid's form. -/
theorem Grid.place_wf {g : Grid} {row col : Nat} (v : Byte) (h : g.wf = true)
    (hrow : row < g.height) (hcol : col < g.width) : (g.place row col v).wf = true := by
  obtain ⟨hwf, hin⟩ := Bool.and_eq_true_iff.mp h
  refine Bool.and_eq_true_iff.mpr ⟨Memory.write_wf _ _ hwf, ?_⟩
  rw [List.all_eq_true] at hin ⊢
  intro d hd
  rcases Memory.mem_write hd with rfl | hd
  · have : row * g.width + g.width ≤ g.height * g.width := by nlinarith
    refine decide_eq_true ?_
    simp only [Grid.place]
    rw [Nat.mul_comm g.width]
    omega
  · exact hin d hd

/-- The cells `f` gives to a rising list of indices are in canonical form. -/
theorem Memory.filterMap_wf (f : Nat → Byte) (l : List Nat) (h : l.Pairwise (· < ·)) :
    Memory.wf (l.filterMap fun a => if f a = Memory.unlisted then none else some (a, f a)) = true := by
  induction l with
  | nil => rfl
  | cons a rest ih =>
    obtain ⟨ha, hrest⟩ := List.pairwise_cons.mp h
    simp only [List.filterMap_cons]
    split
    · exact ih hrest
    · rename_i c hc
      split at hc
      · cases hc
      · cases hc
        refine (Memory.wf_cons _ _).mpr ⟨‹_›, fun d hd => ?_, ih hrest⟩
        obtain ⟨b, hb, hbd⟩ := List.mem_filterMap.mp hd
        split at hbd <;> cases hbd
        exact ha _ hb

/-- A grid built from a window has the grid's form. -/
theorem Grid.ofWindow_wf (w h : Nat) (P : Nat → Nat → Byte) : (Grid.ofWindow w h P).wf = true := by
  refine Bool.and_eq_true_iff.mpr
    ⟨Memory.filterMap_wf (fun a => P (a / w) (a % w)) _ List.pairwise_lt_range, ?_⟩
  rw [List.all_eq_true]
  intro d hd
  obtain ⟨b, hb, hbd⟩ := List.mem_filterMap.mp hd
  dsimp only at hbd
  split at hbd <;> cases hbd
  simpa [Grid.ofWindow] using hb

/-- Reset memory lists nothing, which is canonical. -/
theorem State.reset_grid_wf : State.reset.grid.wf = true := rfl

end Sys2Proof.Machine
end

