-- ==== Sys2Proof/Laws/PerInstr.lean ====
section
/-! SUPPORT. A family of statements about each operation as syntax: its command has a legal MODE (R22) and carries its operands (R58). -/

/-- The command of an operation is well formed and carries the operation's offsets (R22, R58). -/
def Sys2Proof.Laws.LegalCommand.Statement (i : Sys2Proof.Instr) : Prop :=
  i.wf = true ∧ (Sys2Proof.encode i).wf = true ∧
  (Sys2Proof.encode i).colOff = i.colOff ∧ (Sys2Proof.encode i).rowOff = i.rowOff

theorem Sys2Proof.Laws.LegalCommand.encSprite16 (colOff rowOff : Nat) :
    Sys2Proof.Laws.LegalCommand.Statement (.encSprite16 colOff rowOff) := ⟨rfl, rfl, rfl, rfl⟩

theorem Sys2Proof.Laws.LegalCommand.encTile8 (colOff rowOff : Nat) :
    Sys2Proof.Laws.LegalCommand.Statement (.encTile8 colOff rowOff) := ⟨rfl, rfl, rfl, rfl⟩

theorem Sys2Proof.Laws.LegalCommand.encMeta16 (colOff rowOff : Nat) :
    Sys2Proof.Laws.LegalCommand.Statement (.encMeta16 colOff rowOff) := ⟨rfl, rfl, rfl, rfl⟩
end

