-- ==== Sys2Proof/Tests/Slice0.lean ====
section
/-! SUPPORT. Small tests from 95_test_vectors.md and the rules, the checks of WellFormed, and a witness for the hypotheses of each statement. -/

-- One theorem at a time: elaborated at once, the kernel evaluations below ask for more threads than a
-- sandbox may give.
set_option Elab.async false

namespace Sys2Proof.Tests

open Sys2Proof.Machine Sys2Proof.Safety

/-! ### WellFormed -/

/-- R60: a command with the reserved MODE is ill formed. -/
theorem test_command_wf_refuses_reserved :
    Command.wf ⟨0b11#2, 0, 0⟩ = false ∧ Command.wf ⟨0b10#2, 7, 9⟩ = true := by decide

/-- R62: every natural is a well-formed offset. -/
theorem test_instr_wf_takes_any_offset : Instr.wf (.encTile8 1000000 3) = true := by decide

/-- The canonical form refuses a zero cell, cells out of order, and a cell twice. -/
theorem test_memory_wf_refuses :
    Memory.wf [(3, 0#8)] = false ∧ Memory.wf [(3, 1#8), (2, 1#8)] = false ∧
    Memory.wf [(3, 1#8), (3, 2#8)] = false ∧ Memory.wf [(2, 1#8), (3, 1#8)] = true := by decide

/-- A grid refuses an entry outside its size (R21). -/
theorem test_grid_wf_refuses_entry_outside :
    Grid.wf ⟨2, 2, [(4, 1#8)]⟩ = false ∧ Grid.wf ⟨2, 2, [(3, 1#8)]⟩ = true := by decide

/-! ### Decoding: MODE words written out from R59 -/

theorem test_decode_sprite : decode ⟨0b00#2, 4, 0⟩ = .operation (.encSprite16 4 0) := by decide

theorem test_decode_tile : decode ⟨0b01#2, 8, 0⟩ = .operation (.encTile8 8 0) := by decide

theorem test_decode_meta : decode ⟨0b10#2, 0, 1⟩ = .operation (.encMeta16 0 1) := by decide

theorem test_decode_reserved : decode ⟨0b11#2, 8, 0⟩ = .reserved := by decide

/-- R63: column first. -/
theorem test_asm_column_first : Instr.asm (.encTile8 8 0) = "ENC_TILE8 8, 0" := by decide +kernel

/-- R64, R126. -/
theorem test_convert_asm :
    (Layout.ofCliName "tile_16x16").map Layout.convertAsm = some "CONVERT tile_16x16" := by
  decide +kernel

/-! ### Vectors of 95_test_vectors.md -/

/-- V-T4: `P = c`; MSB is column 0. -/
def columns : Window := fun _ c => BitVec.ofNat 8 c

/-- `(XX YY …)×n` of the vectors' notation. -/
def times (n : Nat) (bytes : List Byte) : List Byte := (List.replicate n bytes).flatten

theorem test_VT4_planar :
    planar8 columns = times 8 [0x55#8, 0x33#8] ++ times 8 [0x0F#8, 0x00#8] := by decide +kernel

theorem test_VT4_linear :
    linear8 columns = times 8 [0x01#8, 0x23#8, 0x45#8, 0x67#8] := by decide +kernel

/-- V-T8: entries AB encode as their low nibble B. -/
theorem test_VT8 : tileBlocks (fun _ _ => 0xAB#8) =
    { planar := times 8 [0xFF#8, 0xFF#8] ++ times 8 [0x00#8, 0xFF#8]
      linear := times 32 [0xBB#8] } := by decide +kernel

/-- V-T12 (W3): the source's pair (0x3, 0xA). -/
def pairWindow : Window := fun r c =>
  if r = 0 ∧ c = 0 then 0x3#8 else if r = 0 ∧ c = 1 then 0xA#8 else 0#8

theorem test_VT12 : (planar8 pairWindow)[0]? = some 0x80#8 ∧ (planar8 pairWindow)[1]? = some 0xC0#8 ∧
    (planar8 pairWindow)[16]? = some 0x00#8 ∧ (planar8 pairWindow)[17]? = some 0x40#8 ∧
    (linear8 pairWindow)[0]? = some 0x3A#8 := by decide +kernel

/-- V-T10: row placement in both half-planes. -/
theorem test_VT10 : planar8 (fun r _ => BitVec.ofNat 8 r) =
    [0x00#8, 0x00#8, 0xFF#8, 0x00#8, 0x00#8, 0xFF#8, 0xFF#8, 0xFF#8,
     0x00#8, 0x00#8, 0xFF#8, 0x00#8, 0x00#8, 0xFF#8, 0xFF#8, 0xFF#8] ++
    times 8 [0x00#8] ++ times 4 [0xFF#8, 0x00#8] := by decide +kernel

/-- V-S3: word 00FF of plane 3 is written FF 00, low byte first. -/
theorem test_VS3_planar : planar16 columns =
    times 32 [0x55#8] ++ times 32 [0x33#8] ++ times 32 [0x0F#8] ++ times 16 [0xFF#8, 0x00#8] := by
  decide +kernel

theorem test_VS3_linear : linear16 columns =
    times 16 [0x01#8, 0x23#8, 0x45#8, 0x67#8, 0x89#8, 0xAB#8, 0xCD#8, 0xEF#8] := by decide +kernel

/-- V-S7: 2 at (3, 8): word 19 is 0080, byte 38 is 80, linear byte 28 is 20. -/
theorem test_VS7 :
    let P : Window := fun r c => if r = 3 ∧ c = 8 then 2#8 else 0#8
    (spriteWords P)[19]? = some 0x0080#16 ∧ (planar16 P)[38]? = some 0x80#8 ∧
    (linear16 P)[28]? = some 0x20#8 := by decide +kernel

/-- V-M1: quadrants 1, 2, 3, 4. -/
def quadrants : Window := fun r c =>
  if r < 8 then (if c < 8 then 1#8 else 2#8) else if c < 8 then 3#8 else 4#8

theorem test_VM1_planar : metaPlanar quadrants =
    times 8 [0xFF#8, 0x00#8] ++ times 16 [0x00#8] ++ times 8 [0x00#8, 0xFF#8] ++ times 16 [0x00#8] ++
    times 8 [0xFF#8, 0xFF#8] ++ times 16 [0x00#8] ++ times 16 [0x00#8] ++ times 8 [0xFF#8, 0x00#8] := by
  decide +kernel

theorem test_VM1_linear : metaLinear quadrants =
    times 32 [0x11#8] ++ times 32 [0x22#8] ++ times 32 [0x33#8] ++ times 32 [0x44#8] := by
  decide +kernel

/-! ### Single steps -/

/-- A run in progress on the grid of `w × h` entries `P`, the host about to issue `cs`. -/
def running (w h : Nat) (P : Window) (cs : List Command) : State :=
  { State.reset with grid := Grid.ofWindow w h P, phase := .commands, program := .direct cs }

/-- What a next state shows of the block. -/
def shows {α : Type} (o : Host.Outcome State Fault Refusal) (f : State → α) : Option α :=
  match o with
  | .next t => some (f t)
  | .fault _ => none
  | .refused _ => none

/-- P1's second command: `ENC_TILE8 8, 0` on `P = c`, 16 × 8: the second half has plane 3 set. -/
theorem test_step_P1_second_tile :
    shows (step (running 16 8 columns [⟨0b01#2, 8, 0⟩])) (fun t => (t.planar, t.faultValid)) =
      some (times 8 [0x55#8, 0x33#8] ++ times 8 [0x0F#8, 0xFF#8], false) := by decide +kernel

/-- `ENC_TILE8 9, 0` on 16 × 8 leaves the grid (95 fault vectors of ENC_TILE8). -/
theorem test_step_tile_oob :
    shows (step (running 16 8 columns [⟨0b01#2, 9, 0⟩]))
      (fun t => (t.planar, t.linear, t.faultWord)) = some ([], [], 0b101#3) := by decide +kernel

/-- P6's first command: `ENC_SPRITE16 4, 0` on `P = c & F`, 20 × 16: an unaligned window. -/
theorem test_step_P6_unaligned_sprite :
    shows (step (running 20 16 (fun _ c => BitVec.ofNat 8 (c % 16)) [⟨0b00#2, 4, 0⟩])) State.linear =
      some (times 16 [0x45#8, 0x67#8, 0x89#8, 0xAB#8, 0xCD#8, 0xEF#8, 0x01#8, 0x23#8]) := by
  decide +kernel

/-- `ENC_META16 0, 1` on 20 × 16: no quarter is appended. -/
theorem test_step_meta_oob :
    shows (step (running 20 16 columns [⟨0b10#2, 0, 1⟩])) (fun t => (t.planar.length, t.faultCode)) =
      some (0, 2#2) := by decide +kernel

/-- P5's second command: MODE 11 raises ILLEGAL_MODE; its third is not performed. -/
theorem test_step_P5_reserved :
    shows (step (running 16 8 columns [⟨0b11#2, 8, 0⟩])) (fun t => (t.faultWord, t.planar)) =
      some (0b011#3, []) := by decide +kernel

theorem test_step_P5_not_performed :
    shows (step ((running 16 8 columns [⟨0b01#2, 8, 0⟩]).raiseFault .illegalMode))
      (fun t => (t.faultWord, t.planar, t.operandsHeld)) = some (0b011#3, [], false) := by decide +kernel

/-- P3: the cells of a 20 × 20 grid of tiles. -/
theorem test_P3_cells :
    runCells .tile8 ⟨20, 20, []⟩ = [(0, 0), (0, 8), (8, 0), (8, 8)] := by decide +kernel

/-- P7: a 7 × 7 grid has no cell, and the run writes an empty file (D16). -/
theorem test_P7_no_cell : runCells .tile8 ⟨7, 7, []⟩ = [] := by decide

theorem test_P7_empty_file :
    shows (step { State.reset with phase := .write, config := ⟨.tile8, false⟩ })
      (fun t => (t.files, t.exitStatus)) = some ([⟨⟨"planar", .tile8⟩, []⟩], some 0) := by decide +kernel

/-- P4: an RGB image ends the run before the walk. -/
theorem test_P4_rgb :
    shows (step { State.reset with phase := .colourCheck, colourMode := .other })
      (fun t => (t.error, t.exitStatus, t.files)) =
      some (some .unsupportedImageMode, some 1, []) := by decide +kernel

/-- Each table word runs as the first step after reset. -/
theorem test_first_step_runs_word :
    shows (step (State.reset.withFetchWord 8 1)) (fun t => (t.mode, t.operandsHeld)) =
      some (0b01#2, true) := by decide +kernel

/-! ### Witnesses: concrete states and operands that meet a statement's hypotheses, named after it, at the
boundary of each range -/

/-- V-T6: the last pixel of a tile is bit 0 of byte 31. -/
theorem witness_TilePlanarBitIsPixelBit : 7 < 8 ∧ 3 < 4 ∧
    (planar8 (fun r c => if r = 7 ∧ c = 7 then 0xF#8 else 0#8))[2 * 7 + 3 % 2 + 16 * (3 / 2)]? =
      some 0x01#8 := by decide +kernel

theorem witness_TileLinearPacksPairs : 7 < 8 ∧ 3 < 4 ∧
    (linear8 (fun r c => if r = 7 ∧ c = 7 then 0xF#8 else 0#8))[4 * 7 + 3]? = some 0x0F#8 := by
  decide +kernel

/-- Both sides of R86: plane 3 of a window of 8s is FF, plane 0 is 00. -/
theorem witness_TilePlaneByteExtremes : 7 < 8 ∧ 3 < 4 ∧
    (planar8 (fun _ _ => 8#8))[2 * 7 + 3 % 2 + 16 * (3 / 2)]? = some 0xFF#8 ∧
    (planar8 (fun _ _ => 8#8))[2 * 7 + 0 % 2 + 16 * (0 / 2)]? = some 0x00#8 := by decide +kernel

/-- V-S6: 8 at (15, 15) is word 63 = 0001 and byte 126 = 01. -/
theorem witness_SpriteWordsLowByteFirst : 63 < 64 ∧ 15 < 16 ∧
    (spriteWords (fun r c => if r = 15 ∧ c = 15 then 8#8 else 0#8))[63]? = some 0x0001#16 ∧
    (planar16 (fun r c => if r = 15 ∧ c = 15 then 8#8 else 0#8))[126]? = some 0x01#8 := by
  decide +kernel

/-- V-S4: the leftmost column is bit 7 of the odd byte. -/
theorem witness_SpritePlanarClosedForm : 127 < 128 ∧ 7 < 8 ∧
    (planar16 (fun r c => if r = 0 ∧ c = 0 then 1#8 else 0#8))[1]? = some 0x80#8 := by decide +kernel

theorem witness_SpriteLinearPacksPairs : 15 < 16 ∧ 7 < 8 ∧
    (linear16 (fun r c => if r = 15 ∧ c = 15 then 8#8 else 0#8))[8 * 15 + 7]? = some 0x08#8 := by
  decide +kernel

theorem witness_SpriteHoldsTilePlaneBytes : 15 < 16 ∧ 3 < 4 ∧
    (planar8 (Window.sub (fun _ _ => 8#8) 8 (8 * (15 / 8))))[2 * (15 % 8) + 3 % 2 + 16 * (3 / 2)]? =
      some 0xFF#8 := by decide +kernel

/-- V-M3: F at (8, 8) is byte 0 of quarter 3. -/
theorem witness_MetatileConcatenatesQuarters : 96 < 128 ∧
    (metaPlanar (fun r c => if r = 8 ∧ c = 8 then 0xF#8 else 0#8))[96]? = some 0x80#8 := by
  decide +kernel

/-- P2: the right half of row 8 is in the bottom-right quarter. -/
theorem witness_MetatileLinearPermutesSprite : 8 < 16 ∧ 4 < 8 ∧
    (linear16 quadrants)[8 * 8 + 4]? = some 0x44#8 ∧
    (metaLinear quadrants)[32 * (2 * (8 / 8) + 4 / 4) + 4 * (8 % 8) + 4 % 4]? = some 0x44#8 := by
  decide +kernel

theorem witness_OnlyLowNibblesAreRead :
    (∀ r c, r < 16 → c < 16 → nib ((fun _ _ => 0xAB#8 : Window) r c) =
      nib ((fun _ _ => 0x0B#8 : Window) r c)) ∧ (0xAB#8 : Byte) ≠ 0x0B#8 := by
  refine ⟨fun r c _ _ => ?_, by decide⟩
  show nib 0xAB#8 = nib 0x0B#8
  decide

/-- An 8-row, 16-column grid in a run. -/
def small : State := running 16 8 columns []

/-- A 16-row, 20-column grid in a run. -/
def wide : State := running 20 16 columns []

/-- The window touching the last row and column, and one past it (R76). -/
theorem witness_EncTile8AppendsOrFaults : small.faultValid = false ∧
    (0 + 8 ≤ small.grid.height ∧ 8 + 8 ≤ small.grid.width) ∧ 9 + 8 > small.grid.width ∧
    1 + 8 > small.grid.height := by decide

theorem witness_EncSprite16AppendsOrFaults : wide.faultValid = false ∧
    (0 + 16 ≤ wide.grid.height ∧ 4 + 16 ≤ wide.grid.width) ∧ 5 + 16 > wide.grid.width ∧
    1 + 16 > wide.grid.height := by decide

theorem witness_EncMeta16AppendsOrFaults : wide.faultValid = false ∧
    (0 + 16 ≤ wide.grid.height ∧ 4 + 16 ≤ wide.grid.width) ∧ 5 + 16 > wide.grid.width ∧
    1 + 16 > wide.grid.height := by decide

theorem witness_WindowReadsRowMajorGrid :
    (0 + 7 < small.grid.height ∧ 8 + 7 < small.grid.width) ∧ small.grid.pix 7 15 = some 15#8 ∧
    small.grid.width ≤ 9 + 7 ∧ small.grid.pix 7 16 = none ∧ small.grid.height ≤ 1 + 7 ∧
    small.grid.pix 8 15 = none := by decide +kernel

theorem witness_PlacedEntryIsReadBack : small.grid.wf = true ∧ 7 < small.grid.height ∧
    15 < small.grid.width ∧ (small.grid.place 7 15 0xAB#8).pix 7 15 = some 0xAB#8 ∧
    (small.grid.place 7 15 0xAB#8).pix 7 14 = some 14#8 := by decide +kernel

theorem witness_WindowOobExactlyOutsideGrid : small.faultValid = false ∧
    ¬ (0 + 8 > small.grid.height ∨ 8 + 8 > small.grid.width) ∧
    (0 + 8 > small.grid.height ∨ 9 + 8 > small.grid.width) := by decide

theorem witness_ReservedModeRaisesIllegalMode : small.faultValid = false := rfl

theorem witness_FaultEntryAndLatchedCommands : small.faultValid = false ∧
    (small.raiseFault .windowOob).faultValid = true := by decide

/-- A command that completes: the hypothesis `exec i s = .next t`. -/
theorem tile_completes : ∃ t, exec (.encTile8 8 0) small = .next t ∧ t.faultValid = false :=
  ⟨_, (exec_eq_perform _ _).trans
    (perform_of_fits (side := 8) (opBlocks (.encTile8 8 0)) (s := small) rfl (by decide)), rfl⟩

theorem sprite_completes : ∃ t, exec (.encSprite16 4 0) wide = .next t ∧ t.faultValid = false :=
  ⟨_, (exec_eq_perform _ _).trans
    (perform_of_fits (side := 16) (opBlocks (.encSprite16 4 0)) (s := wide) rfl (by decide)), rfl⟩

theorem meta_completes : ∃ t, exec (.encMeta16 4 0) wide = .next t ∧ t.faultValid = false :=
  ⟨_, (exec_eq_perform _ _).trans
    (perform_of_fits (side := 16) (opBlocks (.encMeta16 4 0)) (s := wide) rfl (by decide)), rfl⟩

/-- A command that faults: the other case of R49. -/
theorem sprite_faults : ∃ t, exec (.encSprite16 5 0) wide = .next t ∧ t.faultValid = true :=
  ⟨_, (exec_eq_perform _ _).trans
    (perform_of_not_fits (side := 16) (opBlocks (.encSprite16 5 0)) (s := wide) rfl (by decide)), rfl⟩

theorem witness_CommandsAppendWholeBlocks :
    (∃ i s t, exec i s = .next t ∧ t.faultValid = false) ∧
    (∃ i s t, exec i s = .next t ∧ t.faultValid = true) :=
  ⟨⟨_, _, sprite_completes⟩, ⟨_, _, sprite_faults⟩⟩

theorem witness_CommandFrame : ∃ i s t, exec i s = .next t ∧ t.faultValid = false :=
  ⟨_, _, meta_completes⟩

/-- Two grids of different size and different high nibbles that agree in the window. -/
theorem witness_BlocksDependOnWindowOnly :
    let s := running 8 8 (fun _ _ => 0x3#8) []
    let t := running 9 9 (fun _ _ => 0x53#8) []
    s.faultValid = false ∧ t.faultValid = false ∧ s.grid.fits 8 0 0 ∧ t.grid.fits 8 0 0 ∧
    ∀ r, r < 8 → ∀ c, c < 8 → (s.grid.pix (0 + r) (0 + c)).map nib = (t.grid.pix (0 + r) (0 + c)).map nib := by
  decide +kernel

theorem witness_MetatileEqualsFourTileCommands : wide.faultValid = false ∧
    0 + 16 ≤ wide.grid.height ∧ 4 + 16 ≤ wide.grid.width := by decide

theorem witness_StepRunsDecodedCommand :
    (running 16 8 columns [⟨0b01#2, 8, 0⟩]).phase = .commands ∧
    (running 16 8 columns [⟨0b01#2, 8, 0⟩]).program = .direct (⟨0b01#2, 8, 0⟩ :: []) ∧
    decode ⟨0b01#2, 8, 0⟩ = .operation (.encTile8 8 0) ∧ decode ⟨0b11#2, 8, 0⟩ = .reserved := by decide

theorem witness_StepRunsPlacedWord : decodeTableWord 8 0 = some (.encSprite16 0 0) ∧
    decodeTableWord 8 2 = some (.encMeta16 0 0) := by decide

/-- CONVERT tile_8x8 on a `w × h` grid of zeros with its cursor at (`row`, `col`). -/
def walking (w h row col : Nat) : State :=
  { State.reset with
    grid := ⟨w, h, []⟩, phase := .commands, program := .convert, config := ⟨.tile8, true⟩
    walkRow := row, walkCol := col }

/-- The three cases of a walk's step, at their boundaries: the last cell, an extent of no columns, the
end. -/
theorem witness_ConvertStepRunsCellCommand :
    (walking 20 20 8 8).phase = .commands ∧ (walking 20 20 8 8).program = .convert ∧
    (8 < 20 / 8 * 8 ∧ 8 < 20 / 8 * 8) ∧ (0 < 20 / 8 * 8 ∧ 7 / 8 * 8 ≤ 0) ∧ 20 / 8 * 8 ≤ 16 := by decide

theorem witness_ConvertNeverFaults :
    (walking 20 20 8 8).phase = .commands ∧ (walking 20 20 8 8).program = .convert ∧
    (walking 20 20 8 8).faultValid = false ∧ 8 % Layout.cellSize .tile8 = 0 := by decide

theorem witness_NthCellOfRun : 3 < 20 / Layout.cellSize .tile8 * (20 / Layout.cellSize .tile8) ∧
    (runCells .tile8 ⟨20, 20, []⟩)[3]? = some (8, 8) := by decide +kernel

theorem witness_NthBlockOfRun : (runCells .tile8 ⟨20, 20, []⟩)[1]? = some (0, 8) := by decide +kernel

theorem witness_CellsTileTruncatedExtent : 15 < 20 / Layout.cellSize .tile8 * Layout.cellSize .tile8 ∧
    (8, 8) ∈ runCells .tile8 ⟨20, 20, []⟩ := by decide +kernel

theorem witness_RowPartitionConforms : 1 ≤ 20 / Layout.cellSize .tile8 := by decide

theorem witness_SmallGridGivesNoCommand : 7 < Layout.cellSize .tile8 ∧ 15 < Layout.cellSize .sprite16 := by
  decide

theorem witness_BlockResetState : ({ small with phase := .resetBlock } : State).phase = .resetBlock := rfl

/-- A run asked for: CONVERT tile_8x8 on the image `im`. -/
def launch (im : Option Image) : Launch :=
  { image := im, commandLine := ⟨.tile8, none, true, false⟩, program := .convert
    planarWritable := true, linearWritable := true }

/-- A waiting state after a faulted run, with one run asked for. -/
def waiting (im : Option Image) : State :=
  { small.raiseFault .windowOob with phase := .ended, exitStatus := some 1, launches := [launch im] }

theorem witness_RunsShareNoState :
    (waiting none).phase = .ended ∧ ({ State.reset with launches := [launch none] } : State).phase = .idle ∧
    (waiting none).launches = launch none :: [] ∧
    (waiting none).freeCount = State.reset.freeCount := by decide

theorem witness_NonIndexedImageEndsRun :
    (waiting (some ⟨small.grid, .other⟩)).phase = .ended ∧
    (waiting (some ⟨small.grid, .other⟩)).launches = launch (some ⟨small.grid, .other⟩) :: [] ∧
    (launch (some ⟨small.grid, .other⟩)).image = some ⟨small.grid, .other⟩ := ⟨rfl, rfl, rfl⟩

theorem witness_UndecodableImageEndsRun : (waiting none).phase = .ended ∧
    (waiting none).launches = launch none :: [] ∧ (launch none).image = none := ⟨rfl, rfl, rfl⟩

/-- A run at its last step, R154 step 6. -/
def writing (fileOut : Option String) (emitLinear planarOk linearOk : Bool) : State :=
  { State.reset with
    phase := .write, commandLine := ⟨.tile8, fileOut, emitLinear, false⟩, config := ⟨.tile8, emitLinear⟩
    planar := [0x55#8], linear := [0x01#8], planarWritable := planarOk, linearWritable := linearOk }

theorem witness_FaultedRunWritesNoFile :
    ((writing none true true true).raiseFault .windowOob).phase = .write ∧
    ((writing none true true true).raiseFault .windowOob).faultValid = true := by decide

theorem witness_EndingStatusTellsSuccess :
    ∃ s t : State, step s = .next t ∧ s.phase ≠ .ended ∧ t.phase = .ended ∧ s.faultValid = true :=
  ⟨(writing none true true true).raiseFault .windowOob, _, rfl, by decide, rfl, rfl⟩

/-- Both ways to have no name collision, and both kinds of linear writability that allow success. -/
theorem witness_SuccessfulRunWritesStreams :
    (writing none true true true).phase = .write ∧ (writing none true true true).faultValid = false ∧
    (writing none true true true).planarWritable = true ∧
    (writing none true true true).linearWritable = true ∧
    (writing none true true true).commandLine.fileOut = none ∧
    (writing (some "out") false true false).config.emitLinear = false := by decide

theorem witness_NameCollisionKeepsOneStream :
    (writing (some "out") true true true).phase = .write ∧
    (writing (some "out") true true true).faultValid = false ∧
    (writing (some "out") true true true).planarWritable = true ∧
    (writing (some "out") true true true).linearWritable = true ∧
    (writing (some "out") true true true).commandLine.fileOut = some "out" ∧
    (writing (some "out") true true true).config.emitLinear = true := ⟨rfl, rfl, rfl, rfl, rfl, rfl⟩

theorem witness_UnwritableFileEndsRunWithIoError :
    (writing none true false true).phase = .write ∧ (writing none true false true).faultValid = false ∧
    (writing none true false true).planarWritable = false ∧
    (writing none true true false).config.emitLinear = true ∧
    (writing none true true false).linearWritable = false := by decide

theorem witness_OutputFileNames : (writing none true true true).commandLine.fileOut = none ∧
    (writing (some "out") true true true).commandLine.fileOut = some "out" := ⟨rfl, rfl⟩

theorem witness_StreamReadsEndAtLength :
    (writing none true true true).readStream .planar 0 = .ok 0x55#8 ∧
    (writing none true true true).readStream .planar 1 = .error .streamReadPastEnd := ⟨rfl, rfl⟩

/-- A faulted run that issues another command. -/
theorem witness_LatchIsSticky : ∃ s t : State, step s = .next t ∧ s.faultValid = true ∧
    s.phase ≠ .resetBlock ∧ (s.phase = .idle ∨ s.phase = .ended → s.launches = []) :=
  ⟨(running 16 8 columns [⟨0b11#2, 8, 0⟩]).raiseFault .illegalMode, _, rfl, rfl, by decide, fun _ => rfl⟩

theorem witness_StreamsOnlyGrow : ∃ s t : State, step s = .next t ∧
    s.phase ≠ .resetBlock ∧ (s.phase = .idle ∨ s.phase = .ended → s.launches = []) :=
  ⟨running 16 8 columns [⟨0b01#2, 8, 0⟩], _,
    (step_direct (s := running 16 8 columns [⟨0b01#2, 8, 0⟩]) rfl rfl).trans
      (perform_of_fits (c := ⟨0b01#2, 8, 0⟩) (side := 8) tileBlocks (s := small) rfl (by decide)),
    by decide, fun _ => rfl⟩

/-- Each phase of the hypothesis, at a state that steps. -/
theorem witness_GridAndConfigFixedForRun :
    (∃ t, step { small with phase := .colourCheck } = .next t) ∧
    (∃ t, step { small with phase := .configure } = .next t) ∧
    (∃ t, step { small with phase := .resetBlock } = .next t) ∧
    (∃ t, step { small with phase := .commands } = .next t) ∧
    (∃ t, step { small with phase := .write } = .next t) :=
  ⟨⟨_, rfl⟩, ⟨_, rfl⟩, ⟨_, rfl⟩, ⟨_, rfl⟩, ⟨_, rfl⟩⟩

theorem witness_BootAndRunOrder :
    (∃ t, step { small with phase := .decode } = .next t) ∧
    (∃ t, step { small with phase := .colourCheck } = .next t) ∧
    (∃ t, step { small with phase := .configure } = .next t) ∧
    (∃ t, step { small with phase := .resetBlock } = .next t) ∧
    (∃ t, step { small with phase := .commands } = .next t) ∧
    (∃ t, step { small with phase := .write } = .next t) :=
  ⟨⟨_, rfl⟩, ⟨_, rfl⟩, ⟨_, rfl⟩, ⟨_, rfl⟩, ⟨_, rfl⟩, ⟨_, rfl⟩⟩

theorem witness_SilenceChangesNothing :
    (small.phase = .idle ∨ small.phase = .ended → small.launches = []) ∧
    State.reset.phase = .idle ∧ State.reset.launches = [] := ⟨fun _ => rfl, rfl, rfl⟩

/-- A CONVERT run between its first and its second cell. -/
def midWalk : State :=
  { walking 16 8 0 8 with planar := times 32 [0#8], linear := times 32 [0#8] }

theorem witness_StepKeepsInvariant : Inv midWalk := by
  refine ⟨⟨fun _ => rfl, fun h => by cases h⟩, ⟨rfl, by decide +kernel⟩, ⟨by decide, ?_, ?_⟩,
    ⟨by decide, fun _ => ⟨rfl, rfl⟩, ?_, ?_⟩⟩
  · intro im h; cases h
  · intro l h; cases h
  · intro h; cases h
  · intro n h; cases h

theorem witness_StepKeepsWalkInvariant : WalkInv midWalk ∧ WalkDone midWalk := by
  refine ⟨fun _ _ => by decide +kernel, fun _ h => ?_⟩
  rcases h with h | ⟨h, -⟩ <;> cases h

theorem witness_ConvertRunEndsWithWalkStreams :
    (waiting (some ⟨small.grid, .indexed8⟩)).phase = .ended ∧
    (waiting (some ⟨small.grid, .indexed8⟩)).launches = launch (some ⟨small.grid, .indexed8⟩) :: [] ∧
    (launch (some ⟨small.grid, .indexed8⟩)).program = .convert ∧
    (launch (some ⟨small.grid, .indexed8⟩)).planarWritable = true ∧
    (launch (some ⟨small.grid, .indexed8⟩)).linearWritable = true := ⟨rfl, rfl, rfl, rfl, rfl⟩

end Sys2Proof.Tests
end

section
/-! PROOF. What the window and the blocks hold (20_memory.md): the grid is read row-major, none of it outside its bounds (R21, R41, R42), and every operation appends blocks of its own fixed size or nothing (R49, R72). -/

namespace Sys2Proof.Machine

/-! ### Reads of the grid -/

/-- Inside the grid an entry stands at its row-major index (R41). -/
theorem Grid.pix_of_inside {g : Grid} {row col : Nat} (hrow : row < g.height) (hcol : col < g.width) :
    g.pix row col = some (Memory.read g.cells (row * g.width + col)) :=
  if_pos ⟨hrow, hcol⟩

/-- Outside the grid there is no entry (R21). -/
theorem Grid.pix_of_outside {g : Grid} {row col : Nat} (h : g.height ≤ row ∨ g.width ≤ col) :
    g.pix row col = none :=
  if_neg (by omega)

/-- Where the grid has an entry, the window reads it (R42). -/
theorem Grid.windowAt_of_pix {g : Grid} {colOff rowOff r c : Nat} {v : Byte}
    (h : g.pix (rowOff + r) (colOff + c) = some v) : g.windowAt colOff rowOff r c = v := by
  simp [Grid.windowAt, h]

/-- Settles O18: both reads inside the grid are the one row-major read, and outside there is none. -/
theorem windowReadsRowMajorGrid : Obligations.WindowReadsRowMajorGrid := by
  intro g c0 r0 r c
  refine ⟨fun ⟨hrow, hcol⟩ => ?_, Grid.pix_of_outside⟩
  have hpix := Grid.pix_of_inside hrow hcol
  exact ⟨hpix, Grid.windowAt_of_pix hpix⟩

/-! ### Sizes of blocks -/

/-- A word is two bytes: 64 words give 128 (R93). -/
@[simp] theorem planar16_length (P : Window) : (planar16 P).length = 128 := by
  simp [planar16, List.length_flatMap]

/-- Sixteen rows of eight pairs (R94). -/
@[simp] theorem linear16_length (P : Window) : (linear16 P).length = 128 := by
  simp [linear16, List.length_flatMap]

/-- Four tile blocks (R107). -/
@[simp] theorem metaPlanar_length (P : Window) : (metaPlanar P).length = 128 := by
  simp [metaPlanar, subCells]

/-- Four tile blocks (R108). -/
@[simp] theorem metaLinear_length (P : Window) : (metaLinear P).length = 128 := by
  simp [metaLinear, subCells]

/-- The number of bytes an operation appends to each stream (R72). -/
def opBlockSize : Instr → Nat
  | .encTile8 _ _ => 32
  | .encSprite16 _ _ => 128
  | .encMeta16 _ _ => 128

theorem opBlocks_planar_length (i : Instr) (P : Window) :
    (opBlocks i P).planar.length = opBlockSize i := by
  cases i with
  | encSprite16 => simp [opBlocks, spriteBlocks, opBlockSize]
  | encTile8 => simp [opBlocks, tileBlocks, opBlockSize]
  | encMeta16 => simp [opBlocks, metaBlocks, opBlockSize]

theorem opBlocks_linear_length (i : Instr) (P : Window) :
    (opBlocks i P).linear.length = opBlockSize i := by
  cases i with
  | encSprite16 => simp [opBlocks, spriteBlocks, opBlockSize]
  | encTile8 => simp [opBlocks, tileBlocks, opBlockSize]
  | encMeta16 => simp [opBlocks, metaBlocks, opBlockSize]

/-- Settles O24, by the three outcomes of an operation: latched before, performed, out of the grid. -/
theorem commandsAppendWholeBlocks : Obligations.CommandsAppendWholeBlocks := by
  intro i s t hexec
  rcases exec_cases i s with ⟨hlatch, hi⟩ | ⟨hclear, -, hi⟩ | ⟨-, -, hi⟩
  all_goals obtain rfl := Host.Outcome.next.inj (hi.symm.trans hexec)
  · exact .inl ⟨hlatch, rfl, rfl⟩
  · exact .inr ⟨hclear, _, _, rfl, rfl, opBlocks_planar_length i _, opBlocks_linear_length i _⟩
  · exact .inl (by simp)

end Sys2Proof.Machine
end

section
/-! PROOF. The encoding (30_encoding.md): which operation a command decodes to (R59, R62), and which pixel each bit and nibble of the tile and sprite blocks holds (R65 to R70). -/

namespace Sys2Proof

/-! ### Commands and operations -/

/-- The commands are those of the operations and the reserved ones (R62). -/
theorem Command.reserved_or_encode (c : Command) : c.mode = 0b11#2 ∨ ∃ i, encode i = c := by
  obtain ⟨mode, colOff, rowOff⟩ := c
  have modes : ∀ m : BitVec 2, m = 0b00#2 ∨ m = 0b01#2 ∨ m = 0b10#2 ∨ m = 0b11#2 := by decide
  rcases modes mode with rfl | rfl | rfl | rfl
  · exact .inr ⟨.encSprite16 colOff rowOff, rfl⟩
  · exact .inr ⟨.encTile8 colOff rowOff, rfl⟩
  · exact .inr ⟨.encMeta16 colOff rowOff, rfl⟩
  · exact .inl rfl

@[simp] theorem decode_encode (i : Instr) : decode (encode i) = .operation i := by
  cases i <;> rfl

theorem decode_of_mode_reserved {c : Command} (h : c.mode = 0b11#2) : decode c = .reserved := by
  simp [decode, h]

theorem encode_of_decode {c : Command} {i : Instr} (h : decode c = .operation i) :
    encode i = c := by
  rcases c.reserved_or_encode with hmode | ⟨j, rfl⟩
  · simp [decode_of_mode_reserved hmode] at h
  · obtain rfl : j = i := by simpa using h
    rfl

theorem decode_eq_reserved_iff (c : Command) : decode c = .reserved ↔ c.mode = 0b11#2 := by
  refine ⟨fun h => ?_, decode_of_mode_reserved⟩
  rcases c.reserved_or_encode with hmode | ⟨i, rfl⟩
  · exact hmode
  · simp at h

/-- Settles O1: the first three rows of the table are the commands of the operations. -/
theorem modeTableSelectsOperation : Obligations.ModeTableSelectsOperation :=
  ⟨fun c r => decode_encode (.encSprite16 c r), fun c r => decode_encode (.encTile8 c r),
    fun c r => decode_encode (.encMeta16 c r), fun _ _ => decode_of_mode_reserved rfl,
    ⟨rfl, rfl, rfl⟩, ⟨rfl, rfl, rfl⟩, ⟨rfl, rfl, rfl⟩⟩

/-- Settles O2, by the split of the commands into those of operations and the reserved ones. -/
theorem decodeAndEncodeAgree : Obligations.DecodeAndEncodeAgree :=
  ⟨decode_encode, fun _ _ => encode_of_decode, decode_eq_reserved_iff⟩

end Sys2Proof

namespace Sys2Proof.Machine

/-! ### Nibbles and pairs -/

theorem nib_getLsbD {p : Nat} (hp : p < 4) (v : Byte) : (nib v).getLsbD p = v.getLsbD p := by
  simp [nib, hp]

/-- A linear byte is its two nibbles side by side, the left pixel high (R69). -/
theorem packPair_eq_append (left right : Byte) :
    packPair left right = (nib left ++ nib right : BitVec 8) := by
  rw [packPair, BitVec.append_def, BitVec.shiftLeftZeroExtend_eq, BitVec.setWidth'_eq]

@[simp] theorem packPair_high (left right : Byte) :
    (packPair left right).extractLsb' 4 4 = nib left := by
  rw [packPair_eq_append, BitVec.extractLsb'_append_eq_left]

@[simp] theorem packPair_low (left right : Byte) :
    (packPair left right).extractLsb' 0 4 = nib right := by
  rw [packPair_eq_append, BitVec.extractLsb'_append_eq_right]

/-! ### Blocks put together from equal parts -/

/-- Where every part has `m` entries, entry `m * i + q` of the whole is entry `q` of part `i`. -/
theorem flatMap_getElem?_of_length {α β : Type} {f : α → List β} {m : Nat} {xs : List α}
    (hf : ∀ x ∈ xs, (f x).length = m) {i q : Nat} (hq : q < m) :
    (xs.flatMap f)[m * i + q]? = xs[i]?.bind fun x => (f x)[q]? := by
  induction xs generalizing i with
  | nil => simp
  | cons x rest ih =>
    have hx : (f x).length = m := hf x (by simp)
    cases i with
    | zero => simp [List.getElem?_append_left, hx, hq]
    | succ i =>
      have hidx : m * (i + 1) + q = m + (m * i + q) := by rw [Nat.mul_succ]; omega
      rw [hidx, List.flatMap_cons, List.getElem?_append_right (by omega), hx,
        Nat.add_sub_cancel_left, ih fun y hy => hf y (List.mem_cons_of_mem x hy),
        List.getElem?_cons_succ]

/-- Byte `4r + q` of the tile linear block is the pair of columns `2q` and `2q + 1` (R69). -/
theorem linear8_getElem? {r q : Nat} (hr : r < 8) (hq : q < 4) (P : Window) :
    (linear8 P)[4 * r + q]? = some (packPair (P r (2 * q)) (P r (2 * q + 1))) := by
  rw [linear8, flatMap_getElem?_of_length (by simp) hq]
  simp [hr, hq]

/-- Byte `8r + q` of the sprite linear block is the pair of columns `2q` and `2q + 1` (R70). -/
theorem linear16_getElem? {r q : Nat} (hr : r < 16) (hq : q < 8) (P : Window) :
    (linear16 P)[8 * r + q]? = some (packPair (P r (2 * q)) (P r (2 * q + 1))) := by
  rw [linear16, flatMap_getElem?_of_length (by simp) hq]
  simp [hr, hq]

/-- The even bytes of the sprite planar block are the words' low bytes (R93). -/
theorem planar16_getElem?_even (P : Window) (k : Nat) :
    (planar16 P)[2 * k]? = (spriteWords P)[k]?.map lo8 := by
  rw [planar16, Option.map_eq_bind]
  exact flatMap_getElem?_of_length (i := k) (q := 0) (m := 2) (fun _ _ => rfl) Nat.two_pos

/-- The odd bytes of the sprite planar block are the words' high bytes (R93). -/
theorem planar16_getElem?_odd (P : Window) (k : Nat) :
    (planar16 P)[2 * k + 1]? = (spriteWords P)[k]?.map hi8 := by
  rw [planar16, Option.map_eq_bind]
  exact flatMap_getElem?_of_length (i := k) (q := 1) (m := 2) (fun _ _ => rfl) Nat.one_lt_two

/-- Settles O5: every row gives four bytes, each a pair of nibbles side by side. -/
theorem tileLinearPacksPairs : Obligations.TileLinearPacksPairs :=
  fun P _ _ hr hq => ⟨linear8_length P, _, linear8_getElem? hr hq P, packPair_high _ _, packPair_low _ _⟩

/-- Settles O9: every row gives eight bytes, each a pair of nibbles side by side. -/
theorem spriteLinearPacksPairs : Obligations.SpriteLinearPacksPairs :=
  fun P => ⟨planar16_length P, linear16_length P, fun _ _ hr hq =>
    ⟨_, linear16_getElem? hr hq P, packPair_high _ _, packPair_low _ _⟩⟩

/-! ### Planes -/

/-- Where the accumulators begin at zero, the target of row `r`, plane `p` and of no other ends with
bit `p` of that row's pixels, the leftmost pixel highest (R66, R68). -/
theorem accumulate_zeros_holds_plane {n m side : Nat} {target : Nat → Nat → Nat} {r p : Nat}
    (hr : r < side) (hp : p < Config.planes) (hn : side ≤ n) (hm : target r p < m)
    (hinj : ∀ r' q, r' < side → q < Config.planes →
      (target r' q = target r p ↔ r' = r ∧ q = p)) (P : Window) :
    ∃ w, (accumulate side target P (List.replicate m 0#n))[target r p]? = some w ∧
      ∀ c, c < side → w.getLsbD (side - 1 - c) = (P r c).getLsbD p := by
  refine ⟨_, by rw [accumulate_getElem? hr hp hinj, List.getElem?_replicate_of_lt hm,
    Option.map_some], fun c hc => ?_⟩
  rw [foldl_shiftIn_getLsbD (fun c => P r c >>> p) side _ hn (by omega),
    show side - 1 - (side - 1 - c) = c by omega]
  simp

/-- No two planes of a tile's rows share an accumulator (R65). -/
theorem tileTarget_inj {r p r' p' : Nat} (hr : r < 8) (hr' : r' < 8) :
    tileTarget r' p' = tileTarget r p ↔ r' = r ∧ p' = p := by
  unfold tileTarget
  omega

/-- No two planes of a sprite's rows share an accumulator (R67). -/
theorem spriteTarget_inj {r p r' p' : Nat} (hr : r < 16) (hr' : r' < 16) :
    spriteTarget r' p' = spriteTarget r p ↔ r' = r ∧ p' = p := by
  unfold spriteTarget
  omega

/-- The byte of plane `p`, row `r` of the tile planar block, its leftmost pixel in bit 7 (R65, R66). -/
theorem planar8_holds_plane {r p : Nat} (hr : r < 8) (hp : p < 4) (P : Window) :
    ∃ b, (planar8 P)[tileTarget r p]? = some b ∧
      ∀ c, c < 8 → b.getLsbD (7 - c) = (P r c).getLsbD p :=
  accumulate_zeros_holds_plane (side := Config.tileSide) hr hp le_rfl
    (by unfold tileTarget Config.tileBytes; omega) (fun _ _ hr' _ => tileTarget_inj hr hr') P

/-- The sprite word of plane `p`, row `r`, its leftmost pixel in bit 15 (R67, R68). -/
theorem spriteWords_holds_plane {r p : Nat} (hr : r < 16) (hp : p < 4) (P : Window) :
    ∃ w, (spriteWords P)[spriteTarget r p]? = some w ∧
      ∀ c, c < 16 → w.getLsbD (15 - c) = (P r c).getLsbD p :=
  accumulate_zeros_holds_plane (side := Config.spriteSide) hr hp le_rfl
    (by unfold spriteTarget Config.spriteWords; omega) (fun _ _ hr' _ => spriteTarget_inj hr hr') P

/-- Word `k` is that of row `k & 15`, plane `k >> 4` (R67). -/
theorem spriteTarget_and_shiftRight (k : Nat) : spriteTarget (k &&& 15) (k >>> 4) = k := by
  rw [spriteTarget, Nat.and_two_pow_sub_one_eq_mod k 4]
  omega

/-- Settles O4: the byte in question is the one the plane and the row accumulate. -/
theorem tilePlanarBitIsPixelBit : Obligations.TilePlanarBitIsPixelBit := by
  intro P r c p hr hc hp
  obtain ⟨b, hb, hbits⟩ := planar8_holds_plane hr hp P
  rw [tileTarget] at hb
  exact ⟨planar8_length P, by rw [hb, Option.map_some, hbits c hc, nib_getLsbD hp]⟩

/-- Settles O7: word `k` is the one row `k & 15` and plane `k >> 4` accumulate. -/
theorem spriteWordsLowByteFirst : Obligations.SpriteWordsLowByteFirst := by
  intro P k hk
  have hrow : k &&& 15 < 16 := Nat.and_lt_two_pow k (n := 4) (by decide)
  have hplane : k >>> 4 < 4 := by omega
  obtain ⟨w, hw, hbits⟩ := spriteWords_holds_plane hrow hplane P
  rw [spriteTarget_and_shiftRight] at hw
  refine ⟨planar16_length P, w, hw, ?_, ?_, hbits⟩
  · rw [planar16_getElem?_even, hw, Option.map_some, lo8]
  · rw [planar16_getElem?_odd, hw, Option.map_some, hi8]

end Sys2Proof.Machine
end

section
/-! PROOF. The metatile blocks (42_metatile16.md): which byte of which quarter stands where in the concatenations (R106, R107, R108). -/

namespace Sys2Proof.Machine

/-- Quarter `n` lies at column offset 8(n & 1) and row offset 8(n >> 1) (R106). -/
theorem subCells_getElem? {n : Nat} (hn : n < 4) :
    subCells[n]? = some (8 * (n &&& 1), 8 * (n >>> 1)) := by
  revert n
  decide

/-- Where every quarter has 32 bytes, byte `32n + q` of the four together is byte `q` of quarter `n`. -/
theorem subCells_flatMap_getElem? {f : Nat × Nat → List Byte} (hf : ∀ x ∈ subCells, (f x).length = 32)
    {n q : Nat} (hn : n < 4) (hq : q < 32) :
    (subCells.flatMap f)[32 * n + q]? = (f (8 * (n &&& 1), 8 * (n >>> 1)))[q]? := by
  rw [flatMap_getElem?_of_length hf hq, subCells_getElem? hn, Option.bind_some]

/-- Byte `32n + q` of the metatile planar block is byte `q` of quarter `n`'s (R107). -/
theorem metaPlanar_getElem? {n q : Nat} (hn : n < 4) (hq : q < 32) (P : Window) :
    (metaPlanar P)[32 * n + q]? = (planar8 (P.sub (8 * (n &&& 1)) (8 * (n >>> 1))))[q]? :=
  subCells_flatMap_getElem? (fun _ _ => planar8_length _) hn hq

/-- Byte `32n + q` of the metatile linear block is byte `q` of quarter `n`'s (R108). -/
theorem metaLinear_getElem? {n q : Nat} (hn : n < 4) (hq : q < 32) (P : Window) :
    (metaLinear P)[32 * n + q]? = (linear8 (P.sub (8 * (n &&& 1)) (8 * (n >>> 1))))[q]? :=
  subCells_flatMap_getElem? (fun _ _ => linear8_length _) hn hq

/-- Byte `j` of a metatile block is byte `j & 31` of quarter `j >> 5` (R106). -/
theorem quarter_mul_add_and (j : Nat) : 32 * (j >>> 5) + (j &&& 31) = j := by
  rw [Nat.and_two_pow_sub_one_eq_mod j 5, Nat.shiftRight_eq_div_pow]
  exact Nat.div_add_mod j 32

/-- Settles O11: byte `j` is byte `j & 31` of the quarter it falls in, all quarters being 32 long. -/
theorem metatileConcatenatesQuarters : Obligations.MetatileConcatenatesQuarters := by
  intro P j hj
  have hn : j >>> 5 < 4 := by omega
  have hq : j &&& 31 < 32 := Nat.and_lt_two_pow j (n := 5) (by decide)
  have hplanar := metaPlanar_getElem? hn hq P
  have hlinear := metaLinear_getElem? hn hq P
  rw [quarter_mul_add_and] at hplanar hlinear
  exact ⟨metaPlanar_length P, metaLinear_length P, hplanar, hlinear⟩

end Sys2Proof.Machine
end

section
/-! PROOF. Exceptions (60_exceptions.md): when a window faults (R132), the names of the output files (R139), and how a run ends, with which status and which files (R134, R141, R142). -/

namespace Sys2Proof.Machine

/-! ### WINDOW_OOB -/

/-- Settles O20, by the outcomes of an operation under a clear latch: performed, or out of the grid. -/
theorem windowOobExactlyOutsideGrid : Obligations.WindowOobExactlyOutsideGrid := by
  intro i s hclear S
  have hside : S = opSide i := by cases i <;> rfl
  rw [hside]
  rcases exec_cases i s with ⟨hlatch, -⟩ | ⟨-, ⟨hrow, hcol⟩, hi⟩ | ⟨-, hout, hi⟩
  · simp [hclear] at hlatch
  · exact ⟨_, hi, by simp [hclear, hrow, hcol], by simp [hclear]⟩
  · exact ⟨_, hi, by simp only [State.raiseFault_faultValid, true_iff]; omega,
      fun _ => ⟨State.raiseFault_faultCode _ _ hclear, by simp, by simp⟩⟩

/-! ### The names of the output files -/

/-- Without `--fileout` a stream's file has the stream's default base (R139). -/
theorem State.fileName_of_no_fileOut {s : State} (h : s.commandLine.fileOut = none) (st : Stream) :
    s.fileName st = ⟨Stream.defaultBase st, s.config.layout⟩ := by
  simp [State.fileName, h]

/-- With `--fileout NAME` either stream's file has the base NAME (R139). -/
theorem State.fileName_of_fileOut {s : State} {name : String} (st : Stream)
    (h : s.commandLine.fileOut = some name) : s.fileName st = ⟨name, s.config.layout⟩ := by
  simp [State.fileName, h]

/-- Settles O48: the suffixes are the layouts', and the base is `--fileout`'s or the default. -/
theorem outputFileNames : Obligations.OutputFileNames :=
  ⟨fun _ => ⟨rfl, rfl, rfl⟩, ⟨rfl, rfl⟩, ⟨rfl, rfl⟩, ⟨rfl, rfl⟩, fun s =>
    ⟨fun h => ⟨s.fileName_of_no_fileOut h .planar, s.fileName_of_no_fileOut h .linear⟩,
      fun _ st => s.fileName_of_fileOut st⟩⟩

/-! ### Commands end no run -/

theorem exec_keeps_phase {i : Instr} {s t : State} (h : exec i s = .next t) : t.phase = s.phase := by
  rcases exec_cases i s with ⟨-, hi⟩ | ⟨-, -, hi⟩ | ⟨-, -, hi⟩
  all_goals
    obtain rfl := Host.Outcome.next.inj (hi.symm.trans h)
    simp

@[simp] theorem performReserved_phase (c : Command) (s : State) :
    (performReserved c s).phase = s.phase := by
  unfold performReserved
  split <;> simp

theorem issue_keeps_phase {c : Command} {s t : State} (h : issue c s = .next t) :
    t.phase = s.phase := by
  cases hd : decode c with
  | operation i => exact exec_keeps_phase (issue_of_operation s hd ▸ h)
  | reserved =>
    obtain rfl := Host.Outcome.next.inj ((issue_of_reserved s hd).symm.trans h)
    exact performReserved_phase c s

theorem thenNext_eq_next {o : Host.Outcome State Fault Refusal} {f : State → State} {t : State}
    (h : thenNext o f = .next t) : ∃ u, o = .next u ∧ f u = t := by
  cases o with
  | next u => exact ⟨u, rfl, Host.Outcome.next.inj h⟩
  | fault => cases h
  | refused => cases h

@[simp] theorem State.advanceCursor_phase (s : State) (size w : Nat) :
    (s.advanceCursor size w).phase = s.phase := by
  unfold State.advanceCursor
  split <;> simp

/-- One round of the walk leaves the host at its commands or takes it to the writing (R119). -/
theorem walkStep_phase {s t : State} (h : walkStep s = .next t) :
    t.phase = s.phase ∨ t.phase = .write := by
  simp only [walkStep] at h
  split at h
  · split at h
    · obtain ⟨u, hu, rfl⟩ := thenNext_eq_next h
      have hphase := issue_keeps_phase hu
      split <;> simp [hphase]
    · obtain rfl := Host.Outcome.next.inj h
      simp
  · obtain rfl := Host.Outcome.next.inj h
    simp

/-- From the commands a step leads to the commands or to the writing (R154). -/
theorem step_commands_phase {s t : State} (hs : s.phase = .commands) (h : step s = .next t) :
    t.phase = .commands ∨ t.phase = .write := by
  cases hp : s.program with
  | convert =>
    rw [step_convert hs hp] at h
    simpa [hs] using walkStep_phase h
  | direct commands =>
    cases commands with
    | nil =>
      obtain rfl := Host.Outcome.next.inj ((step_direct_done hs hp).symm.trans h)
      simp
    | cons c rest =>
      rw [step_direct hs hp] at h
      simp [issue_keeps_phase h, hs]

/-! ### The end of a run -/

/-- From the wait a step stays in it or begins a run (R152). -/
theorem waitStep_phase (s : State) : (waitStep s).phase = s.phase ∨ (waitStep s).phase = .decode := by
  unfold waitStep
  split <;> simp

/-- All that the writing can do (R140 to R142): a latched run writes no file, a run whose files are
writable succeeds, and any other ends with IOError. -/
theorem writeStep_cases (s : State) :
    (s.faultValid = true ∧ writeStep s = s.endRun (some (.blockFault s.faultCode)) 1 []) ∨
    (s.faultValid = false ∧ s.writtenStreams.all s.writable = true ∧
      writeStep s = s.endRun none 0 s.outputFiles) ∨
    (s.faultValid = false ∧ s.writtenStreams.all s.writable = false ∧
      writeStep s =
        { s.endRun (some .ioError) 1 s.remnantFiles with freeCount := s.freeCount + 1 }) := by
  cases hfault : s.faultValid with
  | true => exact .inl ⟨rfl, by simp [writeStep, hfault]⟩
  | false =>
    cases hwritable : s.writtenStreams.all s.writable with
    | true => exact .inr (.inl ⟨rfl, rfl, by simp [writeStep, hfault, hwritable]⟩)
    | false => exact .inr (.inr ⟨rfl, rfl, by simp [writeStep, hfault, hwritable]⟩)

/-- The three places where a run can end: the decoding, the colour check and the writing. -/
theorem step_ending_cases {s t : State} (h : step s = .next t) (hs : s.phase ≠ .ended)
    (ht : t.phase = .ended) :
    (s.phase = .decode ∧ s.image = none ∧ t = s.endRun (some .imageDecodeError) 1 []) ∨
    (s.phase = .colourCheck ∧ s.colourMode ≠ .indexed8 ∧
      t = s.endRun (some .unsupportedImageMode) 1 []) ∨
    (s.phase = .write ∧ t = writeStep s) := by
  cases hp : s.phase with
  | idle =>
    obtain rfl := Host.Outcome.next.inj ((step_idle hp).symm.trans h)
    rcases waitStep_phase s with hw | hw <;> simp [hw, hp] at ht
  | decode =>
    obtain rfl := Host.Outcome.next.inj ((step_decode hp).symm.trans h)
    cases himage : s.image with
    | none => simp [decodeStep, himage]
    | some im => simp [decodeStep, himage] at ht
  | colourCheck =>
    obtain rfl := Host.Outcome.next.inj ((step_colourCheck hp).symm.trans h)
    by_cases hmode : s.colourMode = .indexed8
    · simp [colourCheckStep, hmode] at ht
    · simp [colourCheckStep, hmode]
  | configure =>
    obtain rfl := Host.Outcome.next.inj ((step_configure hp).symm.trans h)
    simp [configureStep] at ht
  | resetBlock =>
    obtain rfl := Host.Outcome.next.inj ((step_resetBlock hp).symm.trans h)
    simp at ht
  | commands =>
    rcases step_commands_phase hp h with hc | hc <;> simp [hc] at ht
  | write => exact .inr (.inr ⟨rfl, (Host.Outcome.next.inj ((step_write hp).symm.trans h)).symm⟩)
  | ended => exact absurd hp hs

/-- Settles O44: every way to end a run pairs its error with its status. -/
theorem endingStatusTellsSuccess : Obligations.EndingStatusTellsSuccess := by
  intro s t h hs ht
  rcases step_ending_cases h hs ht with ⟨-, -, rfl⟩ | ⟨-, -, rfl⟩ | ⟨-, rfl⟩
  · simp
  · simp
  · rcases writeStep_cases s with ⟨-, hw⟩ | ⟨hclear, -, hw⟩ | ⟨hclear, -, hw⟩
    · simp [hw]
    · simp [hw, hclear]
    · simp [hw, hclear]

end Sys2Proof.Machine
end

section
/-! PROOF. Reset and hazards (70_reset_and_hazards.md): the block's state at the start of a run (R151), and what no step of a run changes (R156). -/

namespace Sys2Proof.Machine

/-! ### The start of a run -/

theorem State.readMode_of_not_held {s : State} (h : s.operandsHeld = false) :
    s.readMode = .error .operandHasNoValue := by
  simp [State.readMode, h]

theorem State.readColOff_of_not_held {s : State} (h : s.operandsHeld = false) :
    s.readColOff = .error .operandHasNoValue := by
  simp [State.readColOff, h]

theorem State.readRowOff_of_not_held {s : State} (h : s.operandsHeld = false) :
    s.readRowOff = .error .operandHasNoValue := by
  simp [State.readRowOff, h]

/-- Settles O38: the reads are refused because the reset leaves the operands without a value. -/
theorem blockResetState : Obligations.BlockResetState := by
  intro s hs
  have hheld : (s.resetBlock.withPhase .commands).operandsHeld = false := rfl
  exact ⟨_, step_resetBlock hs, rfl, rfl, rfl, rfl, State.readMode_of_not_held hheld,
    State.readColOff_of_not_held hheld, State.readRowOff_of_not_held hheld,
    rfl, rfl, rfl, rfl, rfl, rfl⟩

/-! ### What a command can do -/

/-- All that a command handed to the block can do (R58): it is not performed while the latch is set
(R137), it appends its blocks whole (R49), or it faults (R131, R132). -/
theorem issue_cases (c : Command) (s : State) :
    (s.faultValid = true ∧ issue c s = .next s) ∨
    (s.faultValid = false ∧ ∃ i, decode c = .operation i ∧
      ((s.grid.fits (opSide i) c.colOff c.rowOff ∧ issue c s =
          .next ((s.withOperands c).appendBlocks (opBlocks i (s.grid.windowAt c.colOff c.rowOff)))) ∨
        (¬ s.grid.fits (opSide i) c.colOff c.rowOff ∧
          issue c s = .next ((s.withOperands c).raiseFault .windowOob)))) ∨
    (s.faultValid = false ∧ decode c = .reserved ∧
      issue c s = .next ((s.withOperands c).raiseFault .illegalMode)) := by
  cases hd : decode c with
  | operation i =>
    obtain rfl := encode_of_decode hd
    simp only [issue_of_operation s hd, encode_colOff, encode_rowOff]
    rcases exec_cases i s with hlatched | ⟨hclear, hfits⟩ | ⟨hclear, hout⟩
    · exact .inl hlatched
    · exact .inr (.inl ⟨hclear, i, rfl, .inl hfits⟩)
    · exact .inr (.inl ⟨hclear, i, rfl, .inr hout⟩)
  | reserved =>
    rw [issue_of_reserved s hd]
    cases hlatch : s.faultValid <;> simp [performReserved, hlatch]

/-! ### What a run leaves in place -/

/-- What stands fixed once a run has it: the grid with `W` and `H` (R156), the colour mode (R33) and
ConversionConfig (R30). -/
def State.runInputs (s : State) : Grid × ColourMode × ConversionConfig :=
  (s.grid, s.colourMode, s.config)

theorem State.runInputs_eq_iff {s t : State} : t.runInputs = s.runInputs ↔
    t.grid = s.grid ∧ t.colourMode = s.colourMode ∧ t.config = s.config := by
  simp [State.runInputs]

@[simp] theorem State.withOperands_runInputs (s : State) (c : Command) :
    (s.withOperands c).runInputs = s.runInputs := rfl
@[simp] theorem State.appendBlocks_runInputs (s : State) (b : Blocks) :
    (s.appendBlocks b).runInputs = s.runInputs := rfl
@[simp] theorem State.raiseFault_runInputs (s : State) (k : FaultCause) :
    (s.raiseFault k).runInputs = s.runInputs := by
  simp [State.runInputs]
@[simp] theorem State.resetBlock_runInputs (s : State) : s.resetBlock.runInputs = s.runInputs := rfl
@[simp] theorem State.withCursor_runInputs (s : State) (row col : Nat) :
    (s.withCursor row col).runInputs = s.runInputs := rfl
@[simp] theorem State.withPhase_runInputs (s : State) (p : Phase) :
    (s.withPhase p).runInputs = s.runInputs := rfl
@[simp] theorem State.withProgram_runInputs (s : State) (p : HostProgram) :
    (s.withProgram p).runInputs = s.runInputs := rfl
@[simp] theorem State.endRun_runInputs (s : State) (e : Option RunError) (status : Nat)
    (files : List OutFile) : (s.endRun e status files).runInputs = s.runInputs := rfl

@[simp] theorem State.advanceCursor_runInputs (s : State) (size w : Nat) :
    (s.advanceCursor size w).runInputs = s.runInputs := by
  unfold State.advanceCursor
  split <;> simp

theorem issue_keeps_runInputs {c : Command} {s t : State} (h : issue c s = .next t) :
    t.runInputs = s.runInputs := by
  rcases issue_cases c s with ⟨-, hi⟩ | ⟨-, i, -, ⟨-, hi⟩ | ⟨-, hi⟩⟩ | ⟨-, -, hi⟩
  all_goals
    obtain rfl := Host.Outcome.next.inj (hi.symm.trans h)
    simp

theorem walkStep_keeps_runInputs {s t : State} (h : walkStep s = .next t) :
    t.runInputs = s.runInputs := by
  simp only [walkStep] at h
  split at h
  · split at h
    · obtain ⟨u, hu, rfl⟩ := thenNext_eq_next h
      have hinputs := issue_keeps_runInputs hu
      split <;> simp [hinputs]
    · obtain rfl := Host.Outcome.next.inj h
      simp
  · obtain rfl := Host.Outcome.next.inj h
    simp

theorem step_commands_keeps_runInputs {s t : State} (hs : s.phase = .commands)
    (h : step s = .next t) : t.runInputs = s.runInputs := by
  cases hp : s.program with
  | convert => exact walkStep_keeps_runInputs (step_convert hs hp ▸ h)
  | direct commands =>
    cases commands with
    | nil =>
      obtain rfl := Host.Outcome.next.inj ((step_direct_done hs hp).symm.trans h)
      simp
    | cons c rest =>
      rw [step_direct hs hp] at h
      simp [issue_keeps_runInputs h]

@[simp] theorem colourCheckStep_runInputs (s : State) :
    (colourCheckStep s).runInputs = s.runInputs := by
  unfold colourCheckStep
  split <;> simp

@[simp] theorem writeStep_runInputs (s : State) : (writeStep s).runInputs = s.runInputs := by
  rcases writeStep_cases s with ⟨-, hw⟩ | ⟨-, -, hw⟩ | ⟨-, -, hw⟩
  · simp [hw]
  · simp [hw]
  · rw [hw]
    rfl

/-- From the colour check on, every step but the configuring keeps grid, colour mode and
configuration. -/
theorem step_keeps_runInputs {s t : State} (h : step s = .next t)
    (hs : s.phase = .colourCheck ∨ s.phase = .resetBlock ∨ s.phase = .commands ∨ s.phase = .write) :
    t.runInputs = s.runInputs := by
  rcases hs with hs | hs | hs | hs
  · obtain rfl := Host.Outcome.next.inj ((step_colourCheck hs).symm.trans h)
    exact colourCheckStep_runInputs s
  · obtain rfl := Host.Outcome.next.inj ((step_resetBlock hs).symm.trans h)
    simp
  · exact step_commands_keeps_runInputs hs h
  · obtain rfl := Host.Outcome.next.inj ((step_write hs).symm.trans h)
    exact writeStep_runInputs s

/-- Settles O52: the configuring sets ConversionConfig alone, and every other step keeps it too. -/
theorem gridAndConfigFixedForRun : Obligations.GridAndConfigFixedForRun := by
  intro s t h hs
  by_cases hconf : s.phase = .configure
  · obtain rfl := Host.Outcome.next.inj ((step_configure hconf).symm.trans h)
    exact ⟨rfl, rfl, absurd hconf⟩
  · obtain ⟨hgrid, hmode, hconfig⟩ := State.runInputs_eq_iff.mp
      (step_keeps_runInputs h (by simpa [hconf] using hs))
    exact ⟨hgrid, hmode, fun _ => hconfig⟩

end Sys2Proof.Machine
end

section
/-! PROOF. Laws of the blocks (R80, R86, R97, R100, R102, R110, R111): plane bytes and their extremes, how the three layouts' blocks hold each other's bytes, and that they read low nibbles only. -/

namespace Sys2Proof.Machine

/-! ### Bytes by their bits -/

/-- Bytes are equal when they agree bit by bit, read from the leftmost column on (R66). -/
theorem byte_eq_iff_columns (a b : Byte) :
    a = b ↔ ∀ c, c < 8 → a.getLsbD (7 - c) = b.getLsbD (7 - c) := by
  refine ⟨fun h _ _ => h ▸ rfl, fun h => BitVec.eq_of_getLsbD_eq fun i hi => ?_⟩
  simpa [show 7 - (7 - i) = i by omega] using h (7 - i) (by omega)

/-- A tile plane byte is `x` exactly when its row's pixels have the bits of `x` in that plane (R66). -/
theorem planar8_eq_iff_columns {r p : Nat} (hr : r < 8) (hp : p < 4) (P : Window) (x : Byte) :
    (planar8 P)[2 * r + p % 2 + 16 * (p / 2)]? = some x ↔
      ∀ c, c < 8 → (nib (P r c)).getLsbD p = x.getLsbD (7 - c) := by
  obtain ⟨b, hb, hbits⟩ := planar8_holds_plane hr hp P
  rw [tileTarget] at hb
  rw [hb, Option.some_inj, byte_eq_iff_columns]
  refine forall₂_congr fun c hc => ?_
  rw [hbits c hc, nib_getLsbD hp]

theorem packPair_self (v : Byte) : packPair v v = (nib v ++ nib v : BitVec 8) :=
  packPair_eq_append v v

theorem linear8_const (v : Byte) : linear8 (fun _ _ => v) = List.replicate 32 (packPair v v) := by
  simp [linear8, List.range_succ, List.replicate_succ]

/-- Settles O6: FF and 00 are the bytes whose bits are all set and all clear. -/
theorem tilePlaneByteExtremes : Obligations.TilePlaneByteExtremes := by
  refine ⟨fun P r p hr hp => ⟨?_, ?_⟩, fun v => ?_⟩
  · have ones : ∀ c, c < 8 → (0xFF#8).getLsbD (7 - c) = true := by decide
    rw [planar8_eq_iff_columns hr hp]
    exact forall₂_congr fun c hc => by rw [ones c hc]
  · rw [planar8_eq_iff_columns hr hp]
    simp
  · rw [linear8_const, packPair_self]

/-! ### The sprite's words byte by byte -/

theorem lo8_getLsbD {b : Nat} (hb : b < 8) (w : SpriteWord) : (lo8 w).getLsbD b = w.getLsbD b := by
  simp [lo8, hb]

theorem hi8_getLsbD {b : Nat} (hb : b < 8) (w : SpriteWord) :
    (hi8 w).getLsbD b = w.getLsbD (8 + b) := by
  simp [hi8, hb]

/-- Settles O8: byte `j` is a half of word `j >> 1`, whose bits are known (R67). -/
theorem spritePlanarClosedForm : Obligations.SpritePlanarClosedForm := by
  intro P j b hj hb
  obtain ⟨-, w, -, hlow, hhigh, hbits⟩ := spriteWordsLowByteFirst P (j >>> 1) (by omega)
  by_cases hpar : j % 2 = 0
  · have hbit := hbits (15 - b) (by omega)
    rw [show 2 * (j >>> 1) = j by omega] at hlow
    rw [show 15 - (15 - b) = b by omega] at hbit
    rw [hlow, if_pos hpar, ← hbit, Option.map_some, ← lo8, lo8_getLsbD hb]
  · have hbit := hbits (7 - b) (by omega)
    rw [show 2 * (j >>> 1) + 1 = j by omega] at hhigh
    rw [show 15 - (7 - b) = 8 + b by omega] at hbit
    rw [hhigh, if_neg hpar, ← hbit, Option.map_some, ← hi8, hi8_getLsbD hb]

/-- Settles O10: both bytes hold plane `p` of the same eight pixels. -/
theorem spriteHoldsTilePlaneBytes : Obligations.SpriteHoldsTilePlaneBytes := by
  intro P r p hr hp t dr
  obtain ⟨w, hw, hbits⟩ := spriteWords_holds_plane hr hp P
  rw [spriteTarget] at hw
  have hrow : dr + r % 8 = r := Nat.div_add_mod r 8
  constructor
  · obtain ⟨b, hb, hplane⟩ := planar8_holds_plane (Nat.mod_lt r (by decide)) hp (P.sub 0 dr)
    rw [tileTarget] at hb
    rw [planar16_getElem?_odd, hw, hb, Option.map_some, Option.some_inj, byte_eq_iff_columns]
    intro c hc
    rw [hplane c hc, hi8_getLsbD (by omega), show 8 + (7 - c) = 15 - c by omega,
      hbits c (by omega), Window.sub, hrow, Nat.zero_add]
  · obtain ⟨b, hb, hplane⟩ := planar8_holds_plane (Nat.mod_lt r (by decide)) hp (P.sub 8 dr)
    rw [tileTarget] at hb
    rw [planar16_getElem?_even, hw, hb, Option.map_some, Option.some_inj, byte_eq_iff_columns]
    intro c hc
    rw [hplane c hc, lo8_getLsbD (by omega), show 7 - c = 15 - (8 + c) by omega,
      hbits (8 + c) (by omega), Window.sub, hrow]

/-! ### Metatile against sprite -/

/-- Settles O12: both bytes pack the pair of columns `2q` and `2q + 1` of row `r`. -/
theorem metatileLinearPermutesSprite : Obligations.MetatileLinearPermutesSprite := by
  intro P r q hr hq
  have hn : 2 * (r / 8) + q / 4 < 4 := by omega
  have hcol : (2 * (r / 8) + q / 4) &&& 1 = q / 4 := by
    rw [Nat.and_two_pow_sub_one_eq_mod _ 1]; omega
  have hrow : (2 * (r / 8) + q / 4) >>> 1 = r / 8 := by omega
  rw [linear16_getElem? hr hq, Nat.add_assoc (32 * _), metaLinear_getElem? hn (by omega), hcol, hrow,
    linear8_getElem? (Nat.mod_lt r (by decide)) (Nat.mod_lt q (by decide))]
  simp only [Window.sub]
  rw [show 8 * (r / 8) + r % 8 = r by omega, show 8 * (q / 4) + 2 * (q % 4) = 2 * q by omega,
    show 8 * (q / 4) + (2 * (q % 4) + 1) = 2 * q + 1 by omega]

/-- Settles O13: of a window filled with 1, byte 1 is a byte of plane 0 in the sprite's block and of
plane 1 in the metatile's. -/
theorem metatileIsNotSprite : Obligations.MetatileIsNotSprite := by
  refine ⟨fun _ _ => 1#8, fun heq => ?_⟩
  have hplane0 := ((tilePlaneByteExtremes.1 (fun _ _ => 1#8) 0 0 (by decide) (by decide)).1).mpr
    fun _ _ => rfl
  have hplane1 := ((tilePlaneByteExtremes.1 (fun _ _ => 1#8) 0 1 (by decide) (by decide)).2).mpr
    fun _ _ => rfl
  have hmeta := metaPlanar_getElem? (n := 0) (q := 1) (by decide) (by decide) fun _ _ => 1#8
  have hsprite := (spriteHoldsTilePlaneBytes (fun _ _ => 1#8) 0 0 (by decide) (by decide)).1
  rw [heq] at hmeta
  exact absurd ((hsprite.trans hplane0).symm.trans (hmeta.trans hplane1)) (by decide)

/-! ### Only low nibbles are read -/

/-- The bit a pixel gives to plane `p` is a bit of its low nibble (R77, R92). -/
theorem shiftIn_shiftRight_congr {n p : Nat} {v v' : Byte} (hp : p < Config.planes)
    (h : nib v' = nib v) (a : BitVec n) : shiftIn a (v' >>> p) = shiftIn a (v >>> p) := by
  have hbit : v'.getLsbD p = v.getLsbD p := by rw [← nib_getLsbD hp, h, nib_getLsbD hp]
  have hlow : v' >>> p &&& 1#8 = v >>> p &&& 1#8 := by
    refine BitVec.eq_of_getLsbD_eq fun i _ => ?_
    rcases i with _ | i <;> simp [hbit, BitVec.getLsbD_one]
  rw [shiftIn, shiftIn, hlow]

theorem foldPixel_congr {n : Nat} (target : Nat → Nat) (acc : List (BitVec n)) {v v' : Byte}
    (h : nib v' = nib v) : foldPixel target acc v' = foldPixel target acc v := by
  have planes : ∀ p, p < Config.planes →
      (fun a : BitVec n => shiftIn a (v' >>> p)) = fun a => shiftIn a (v >>> p) :=
    fun p hp => funext (shiftIn_shiftRight_congr hp h)
  have h0 := planes 0 (by decide)
  have h1 := planes 1 (by decide)
  have h2 := planes 2 (by decide)
  have h3 := planes 3 (by decide)
  simp only [BitVec.ushiftRight_zero] at h0
  simp [foldPixel, List.range_succ, ← BitVec.shiftRight_add, h0, h1, h2, h3]

/-- What is accumulated depends on the low nibbles inside the cell only (R80, R97). -/
theorem accumulate_congr {n side : Nat} (target : Nat → Nat → Nat) (acc : List (BitVec n))
    {P P' : Window} (h : ∀ r c, r < side → c < side → nib (P' r c) = nib (P r c)) :
    accumulate side target P' acc = accumulate side target P acc :=
  List.foldl_ext _ _ acc fun acc r hr => List.foldl_ext _ _ acc fun acc c hc =>
    foldPixel_congr (target r) acc (h r c (List.mem_range.mp hr) (List.mem_range.mp hc))

theorem packPair_congr {a a' b b' : Byte} (ha : nib a' = nib a) (hb : nib b' = nib b) :
    packPair a' b' = packPair a b := by
  rw [packPair, packPair, ha, hb]

theorem planar8_congr {P P' : Window} (h : ∀ r c, r < 8 → c < 8 → nib (P' r c) = nib (P r c)) :
    planar8 P' = planar8 P :=
  accumulate_congr _ _ h

theorem linear8_congr {P P' : Window} (h : ∀ r c, r < 8 → c < 8 → nib (P' r c) = nib (P r c)) :
    linear8 P' = linear8 P := by
  refine List.flatMap_congr fun r hr => List.map_congr_left fun q hq => ?_
  rw [List.mem_range] at hr hq
  exact packPair_congr (h r _ hr (by omega)) (h r _ hr (by omega))

theorem planar16_congr {P P' : Window} (h : ∀ r c, r < 16 → c < 16 → nib (P' r c) = nib (P r c)) :
    planar16 P' = planar16 P := by
  rw [planar16, planar16, show spriteWords P' = spriteWords P from accumulate_congr _ _ h]

theorem linear16_congr {P P' : Window} (h : ∀ r c, r < 16 → c < 16 → nib (P' r c) = nib (P r c)) :
    linear16 P' = linear16 P := by
  refine List.flatMap_congr fun r hr => List.map_congr_left fun q hq => ?_
  rw [List.mem_range] at hr hq
  exact packPair_congr (h r _ hr (by omega)) (h r _ hr (by omega))

/-- Every quarter of a 16×16 cell lies inside it (R106). -/
theorem sub_nib_congr {P P' : Window} (h : ∀ r c, r < 16 → c < 16 → nib (P' r c) = nib (P r c))
    {q : Nat × Nat} (hq : q ∈ subCells) (r c : Nat) (hr : r < 8) (hc : c < 8) :
    nib (P'.sub q.1 q.2 r c) = nib (P.sub q.1 q.2 r c) := by
  have inside : ∀ q ∈ subCells, q.1 ≤ 8 ∧ q.2 ≤ 8 := by decide
  obtain ⟨hdc, hdr⟩ := inside q hq
  exact h _ _ (by omega) (by omega)

theorem metaPlanar_congr {P P' : Window} (h : ∀ r c, r < 16 → c < 16 → nib (P' r c) = nib (P r c)) :
    metaPlanar P' = metaPlanar P :=
  List.flatMap_congr fun _ hq => planar8_congr (sub_nib_congr h hq)

theorem metaLinear_congr {P P' : Window} (h : ∀ r c, r < 16 → c < 16 → nib (P' r c) = nib (P r c)) :
    metaLinear P' = metaLinear P :=
  List.flatMap_congr fun _ hq => linear8_congr (sub_nib_congr h hq)

theorem tileBlocks_congr {P P' : Window} (h : ∀ r c, r < 8 → c < 8 → nib (P' r c) = nib (P r c)) :
    tileBlocks P' = tileBlocks P := by
  rw [tileBlocks, tileBlocks, planar8_congr h, linear8_congr h]

theorem spriteBlocks_congr {P P' : Window}
    (h : ∀ r c, r < 16 → c < 16 → nib (P' r c) = nib (P r c)) : spriteBlocks P' = spriteBlocks P := by
  rw [spriteBlocks, spriteBlocks, planar16_congr h, linear16_congr h]

theorem metaBlocks_congr {P P' : Window}
    (h : ∀ r c, r < 16 → c < 16 → nib (P' r c) = nib (P r c)) : metaBlocks P' = metaBlocks P := by
  rw [metaBlocks, metaBlocks, metaPlanar_congr h, metaLinear_congr h]

/-- Settles O14: planes 0 to 3 are bits of the low nibble, and so are the packed pairs. -/
theorem onlyLowNibblesAreRead : Obligations.OnlyLowNibblesAreRead :=
  ⟨fun _ _ => tileBlocks_congr, fun _ _ h => ⟨spriteBlocks_congr h, metaBlocks_congr h⟩⟩

/-! ### Placing an image entry -/

/-- In a row-major grid an index names one row and one column (R41). -/
theorem rowMajor_inj {w row col r c : Nat} (hcol : col < w) (hc : c < w) :
    r * w + c = row * w + col ↔ r = row ∧ c = col := by
  refine ⟨fun h => ?_, fun ⟨hrow, hcol⟩ => by rw [hrow, hcol]⟩
  have hrow : r = row := by
    have := congrArg (· / w) h
    simpa [Nat.mul_comm _ w, Nat.mul_add_div (Nat.zero_lt_of_lt hc), Nat.div_eq_of_lt hc,
      Nat.div_eq_of_lt hcol] using this
  subst hrow
  exact ⟨rfl, Nat.add_left_cancel h⟩

/-- Settles O19: the read after the write, at the only index of that row and column. -/
theorem placedEntryIsReadBack : Obligations.PlacedEntryIsReadBack := by
  intro g row col r c v hwf _ hcol hr hc
  have hcells : Memory.wf g.cells = true := (Bool.and_eq_true_iff.mp hwf).1
  rw [Grid.pix_of_inside hr hc, Grid.pix_of_inside (g := g.place row col v) hr hc]
  simp only [Grid.place, Memory.read_write _ _ _ hcells, rowMajor_inj hcol hc]
  split <;> rfl

end Sys2Proof.Machine
end

section
/-! PROOF. The operations on the machine: what each appends or which fault it raises (R76, R91, R105, R131, R132), what none of them changes (R129), and what their blocks depend on (R82, R99, R109, R112). -/

namespace Sys2Proof.Machine

/-! ### The fault latch -/

theorem State.raiseFault_of_clear {s : State} (k : FaultCause) (h : s.faultValid = false) :
    s.raiseFault k = { s with faultValid := true, faultCode := k.code } := by
  simp [State.raiseFault, h]

/-- A reserved command under a clear latch keeps its fields in the operand registers and raises
ILLEGAL_MODE (R31, R131). -/
theorem performReserved_of_clear (c : Command) {s : State} (h : s.faultValid = false) :
    performReserved c s = { s with
      mode := c.mode, colOff := c.colOff, rowOff := c.rowOff, operandsHeld := true
      faultValid := true, faultCode := 1#2 } := by
  rw [performReserved, h, if_neg Bool.false_ne_true,
    State.raiseFault_of_clear (s := s.withOperands c) .illegalMode h]
  rfl

theorem exec_of_latched (i : Instr) {s : State} (h : s.faultValid = true) : exec i s = .next s := by
  rw [exec_eq_perform, perform_of_latched _ _ _ h]

theorem issue_of_latched (c : Command) {s : State} (h : s.faultValid = true) :
    issue c s = .next s := by
  rcases issue_cases c s with ⟨-, hi⟩ | ⟨hclear, -⟩ | ⟨hclear, -⟩
  · exact hi
  all_goals exact absurd (hclear.symm.trans h) Bool.false_ne_true

/-- Settles O21: MODE = 11 decodes to the reserved verdict. -/
theorem reservedModeRaisesIllegalMode : Obligations.ReservedModeRaisesIllegalMode := by
  intro s c r hclear
  rw [issue_of_reserved s (decode_of_mode_reserved rfl), performReserved_of_clear _ hclear]

/-- Settles O22: fault entry by the latch it meets, and commands by their latched case. -/
theorem faultEntryAndLatchedCommands : Obligations.FaultEntryAndLatchedCommands :=
  ⟨fun _ k h => State.raiseFault_of_clear k h, State.raiseFault_of_latched,
    fun _ c h => issue_of_latched c h, fun _ i h => exec_of_latched i h⟩

/-- Settles O23: FAULT is the code on top of the one valid bit. -/
theorem faultRegisterPacksLatch : Obligations.FaultRegisterPacksLatch := by
  refine ⟨rfl, rfl, fun s => ⟨?_, ?_⟩⟩
  · rw [State.faultWord, BitVec.getLsbD_append]
    simp
  · rw [State.faultWord, BitVec.extractLsb'_append_eq_left]

/-- Settles O3: the table's words are the four modes. -/
theorem tableWordsDecode : Obligations.TableWordsDecode :=
  ⟨rfl, rfl, rfl, rfl⟩

/-! ### What an operation appends -/

/-- An operation whose window lies in the grid writes its operands and appends its blocks. -/
theorem exec_of_fits {i : Instr} {s : State} (h : s.faultValid = false)
    (hfits : s.grid.fits (opSide i) i.colOff i.rowOff) :
    exec i s = .next { s with
      mode := (encode i).mode, colOff := i.colOff, rowOff := i.rowOff, operandsHeld := true
      planar := s.planar ++ (opBlocks i (s.grid.windowAt i.colOff i.rowOff)).planar
      linear := s.linear ++ (opBlocks i (s.grid.windowAt i.colOff i.rowOff)).linear } := by
  rw [exec_eq_perform, perform_of_fits _ h (by simpa using hfits)]
  simp [State.withOperands, State.appendBlocks]

/-- An operation whose window leaves the grid writes its operands and raises WINDOW_OOB. -/
theorem exec_of_not_fits {i : Instr} {s : State} (h : s.faultValid = false)
    (hfits : ¬ s.grid.fits (opSide i) i.colOff i.rowOff) :
    exec i s = .next { s with
      mode := (encode i).mode, colOff := i.colOff, rowOff := i.rowOff, operandsHeld := true
      faultValid := true, faultCode := 2#2 } := by
  rw [exec_eq_perform, perform_of_not_fits _ h (by simpa using hfits),
    State.raiseFault_of_clear (s := s.withOperands (encode i)) .windowOob h]
  simp [State.withOperands, FaultCause.code]

/-- Under a clear latch the bounds check (R132) decides between the two. -/
theorem exec_appends_or_faults (i : Instr) {s : State} (h : s.faultValid = false) :
    (i.rowOff + opSide i ≤ s.grid.height ∧ i.colOff + opSide i ≤ s.grid.width →
      exec i s = .next { s with
        mode := (encode i).mode, colOff := i.colOff, rowOff := i.rowOff, operandsHeld := true
        planar := s.planar ++ (opBlocks i (s.grid.windowAt i.colOff i.rowOff)).planar
        linear := s.linear ++ (opBlocks i (s.grid.windowAt i.colOff i.rowOff)).linear }) ∧
    (i.rowOff + opSide i > s.grid.height ∨ i.colOff + opSide i > s.grid.width →
      exec i s = .next { s with
        mode := (encode i).mode, colOff := i.colOff, rowOff := i.rowOff, operandsHeld := true
        faultValid := true, faultCode := 2#2 }) :=
  ⟨exec_of_fits h, fun hout => exec_of_not_fits h (by omega)⟩

/-- Settles O15: the bounds check at side 8 and the tile's blocks. -/
theorem encTile8AppendsOrFaults : Obligations.EncTile8AppendsOrFaults := fun _ c r hclear => by
  simpa only [opSide, opBlocks, tileBlocks, encode, Instr.colOff, Instr.rowOff] using
    exec_appends_or_faults (.encTile8 c r) hclear

/-- Settles O16: the bounds check at side 16 and the sprite's blocks. -/
theorem encSprite16AppendsOrFaults : Obligations.EncSprite16AppendsOrFaults := fun _ c r hclear => by
  simpa only [opSide, opBlocks, spriteBlocks, encode, Instr.colOff, Instr.rowOff] using
    exec_appends_or_faults (.encSprite16 c r) hclear

/-- A quarter of a window of the grid is a window of the grid (R102). -/
theorem Grid.windowAt_sub (g : Grid) (colOff rowOff dc dr : Nat) :
    (g.windowAt colOff rowOff).sub dc dr = g.windowAt (colOff + dc) (rowOff + dr) := by
  funext r c
  simp only [Window.sub, Grid.windowAt, Nat.add_assoc]

theorem metaPlanar_windowAt (g : Grid) (c r : Nat) : metaPlanar (g.windowAt c r) =
    planar8 (g.windowAt c r) ++ planar8 (g.windowAt (c + 8) r) ++
      planar8 (g.windowAt c (r + 8)) ++ planar8 (g.windowAt (c + 8) (r + 8)) := by
  simp [metaPlanar, subCells, Grid.windowAt_sub]

theorem metaLinear_windowAt (g : Grid) (c r : Nat) : metaLinear (g.windowAt c r) =
    linear8 (g.windowAt c r) ++ linear8 (g.windowAt (c + 8) r) ++
      linear8 (g.windowAt c (r + 8)) ++ linear8 (g.windowAt (c + 8) (r + 8)) := by
  simp [metaLinear, subCells, Grid.windowAt_sub]

/-- Settles O17: the bounds check at side 16 and the quarters' blocks, each read from the grid. -/
theorem encMeta16AppendsOrFaults : Obligations.EncMeta16AppendsOrFaults := fun _ c r hclear => by
  simpa only [opSide, opBlocks, metaBlocks, encode, Instr.colOff, Instr.rowOff, metaPlanar_windowAt,
    metaLinear_windowAt] using exec_appends_or_faults (.encMeta16 c r) hclear

theorem exec_encTile8_appends {s : State} {c r : Nat} (hclear : s.faultValid = false)
    (hrow : r + 8 ≤ s.grid.height) (hcol : c + 8 ≤ s.grid.width) :
    ∃ t, exec (.encTile8 c r) s = .next t ∧ t.grid = s.grid ∧ t.faultValid = false ∧
      t.planar = s.planar ++ planar8 (s.grid.windowAt c r) ∧
      t.linear = s.linear ++ linear8 (s.grid.windowAt c r) :=
  ⟨_, (encTile8AppendsOrFaults s c r hclear).1 ⟨hrow, hcol⟩, rfl, hclear, rfl, rfl⟩

/-- Settles O27: the four tile windows are the metatile's quarters, and appending them one after the
other appends them together. -/
theorem metatileEqualsFourTileCommands : Obligations.MetatileEqualsFourTileCommands := by
  intro s c r hclear hrow hcol
  obtain ⟨t₀, h₀, hg₀, hc₀, hp₀, hl₀⟩ := exec_encTile8_appends (s := s) (c := c) (r := r) hclear
    (by omega) (by omega)
  obtain ⟨t₁, h₁, hg₁, hc₁, hp₁, hl₁⟩ := exec_encTile8_appends (c := c + 8) (r := r) hc₀
    (by rw [hg₀]; omega) (by rw [hg₀]; omega)
  rw [hg₀] at hg₁ hp₁ hl₁
  obtain ⟨t₂, h₂, hg₂, hc₂, hp₂, hl₂⟩ := exec_encTile8_appends (c := c) (r := r + 8) hc₁
    (by rw [hg₁]; omega) (by rw [hg₁]; omega)
  rw [hg₁] at hg₂ hp₂ hl₂
  obtain ⟨t₃, h₃, -, hc₃, hp₃, hl₃⟩ := exec_encTile8_appends (c := c + 8) (r := r + 8) hc₂
    (by rw [hg₂]; omega) (by rw [hg₂]; omega)
  rw [hg₂] at hp₃ hl₃
  refine ⟨_, t₀, t₁, t₂, t₃, (encMeta16AppendsOrFaults s c r hclear).1 ⟨hrow, hcol⟩, h₀, h₁, h₂, h₃,
    ?_, ?_, hclear, hc₃⟩
  · simp only [hp₃, hp₂, hp₁, hp₀, List.append_assoc]
  · simp only [hl₃, hl₂, hl₁, hl₀, List.append_assoc]

/-! ### What the blocks depend on -/

/-- The blocks depend on the low nibbles of the operation's own cell only (R80, R97). -/
theorem opBlocks_congr (i : Instr) {P P' : Window}
    (h : ∀ r c, r < opSide i → c < opSide i → nib (P' r c) = nib (P r c)) :
    opBlocks i P' = opBlocks i P := by
  cases i with
  | encSprite16 => exact spriteBlocks_congr h
  | encTile8 => exact tileBlocks_congr h
  | encMeta16 => exact metaBlocks_congr h

theorem Grid.nib_windowAt (g : Grid) (colOff rowOff r c : Nat) :
    nib (g.windowAt colOff rowOff r c) =
      ((g.pix (rowOff + r) (colOff + c)).map nib).getD (nib Memory.unlisted) := by
  rw [Grid.windowAt, Option.getD_map]

/-- Settles O26: both append the blocks of their own window, and the windows agree in their nibbles. -/
theorem blocksDependOnWindowOnly : Obligations.BlocksDependOnWindowOnly := by
  intro i s t hs ht S hsfits htfits hagree
  have hside : S = opSide i := by cases i <;> rfl
  rw [hside] at hsfits htfits hagree
  have hblocks : opBlocks i (t.grid.windowAt i.colOff i.rowOff) =
      opBlocks i (s.grid.windowAt i.colOff i.rowOff) := opBlocks_congr i fun r c hr hc => by
    rw [Grid.nib_windowAt, Grid.nib_windowAt, hagree r c hr hc]
  exact ⟨_, _, _, _, exec_of_fits hs hsfits, exec_of_fits ht htfits, rfl, by rw [hblocks], rfl,
    by rw [hblocks]⟩

/-! ### What a command leaves unchanged -/

/-- `s` with the block's registers, streams and latch as `b` has them (R31); the grid and the host's
part are those of `s`. -/
def State.withBlockOf (s b : State) : State :=
  { s with
    mode := b.mode, colOff := b.colOff, rowOff := b.rowOff, operandsHeld := b.operandsHeld
    planar := b.planar, linear := b.linear, faultValid := b.faultValid, faultCode := b.faultCode }

/-- A command changes nothing but the block's registers, streams and latch (R129, R137). -/
theorem issue_frame {c : Command} {s t : State} (h : issue c s = .next t) : t = s.withBlockOf t := by
  rcases issue_cases c s with ⟨-, hi⟩ | ⟨hclear, i, -, ⟨-, hi⟩ | ⟨-, hi⟩⟩ | ⟨hclear, -, hi⟩
  all_goals obtain rfl := Host.Outcome.next.inj (hi.symm.trans h)
  · rfl
  · rfl
  · rw [State.raiseFault_of_clear (s := s.withOperands c) _ hclear]
    rfl
  · rw [State.raiseFault_of_clear (s := s.withOperands c) _ hclear]
    rfl

theorem exec_frame {i : Instr} {s t : State} (h : exec i s = .next t) : t = s.withBlockOf t :=
  issue_frame ((issue_of_operation s (decode_encode i)).trans h)

/-- A byte already in a stream reads the same after an append (R24, R25). -/
theorem State.readStream_of_append {s t : State} {st : Stream} {bytes : List Byte}
    (h : t.stream st = s.stream st ++ bytes) {n : Nat} (hn : n < (s.stream st).length) :
    t.readStream st n = s.readStream st n := by
  rw [State.readStream, State.readStream, h, List.getElem?_append_left hn]

theorem encode_eta (i : Instr) :
    { mode := (encode i).mode, colOff := i.colOff, rowOff := i.rowOff } = encode i := by
  rw [← encode_colOff, ← encode_rowOff]

/-- What an operation does to the block's own fields: its operands are written or nothing is, blocks are
appended, and the latch moves only from clear to set. -/
theorem exec_block_effect {i : Instr} {s t : State} (h : exec i s = .next t) :
    ((t.mode = s.mode ∧ t.colOff = s.colOff ∧ t.rowOff = s.rowOff ∧
        t.operandsHeld = s.operandsHeld) ∨
      ({ mode := t.mode, colOff := t.colOff, rowOff := t.rowOff } = encode i ∧
        t.operandsHeld = true)) ∧
    (∃ p l, t.planar = s.planar ++ p ∧ t.linear = s.linear ++ l) ∧
    (s.faultValid = true → t = s) ∧ (t.faultValid = false → t.faultCode = s.faultCode) := by
  rcases exec_cases i s with ⟨-, hi⟩ | ⟨hclear, -, hi⟩ | ⟨hclear, -, hi⟩
  all_goals obtain rfl := Host.Outcome.next.inj (hi.symm.trans h)
  · exact ⟨.inl ⟨rfl, rfl, rfl, rfl⟩, ⟨[], [], by simp⟩, fun _ => rfl, fun _ => rfl⟩
  · exact ⟨.inr ⟨rfl, rfl⟩, ⟨_, _, rfl, rfl⟩, by simp [hclear], fun _ => rfl⟩
  · exact ⟨.inr (by simp [encode_eta]), ⟨[], [], by simp⟩, by simp [hclear], by simp⟩

/-- Settles O25: grid and host by the frame, the block's own fields by what an operation does to them. -/
theorem commandFrame : Obligations.CommandFrame := by
  intro i s t h
  have hframe := exec_frame h
  obtain ⟨hoperands, ⟨p, l, hplanar, hlinear⟩, hlatched, hclear⟩ := exec_block_effect h
  have hgrid : t.grid = s.grid := by rw [hframe]; rfl
  refine ⟨fun _ _ => by rw [hgrid], hgrid,
    fun _ => State.readStream_of_append (st := .planar) hplanar,
    fun _ => State.readStream_of_append (st := .linear) hlinear, hoperands,
    fun hs => by rw [hlatched hs]; exact ⟨hs, rfl⟩, hclear, ?_⟩
  rw [hframe]
  exact ⟨rfl, rfl, rfl, rfl, rfl, rfl, rfl, rfl, rfl, rfl, rfl, rfl, rfl, rfl, rfl⟩

/-! ### What a command does not look at -/

/-- `f` changes host fields only: it leaves the grid and the latch, and commutes with everything a
command can do to the block. -/
structure LeavesBlock (f : State → State) : Prop where
  grid : ∀ s, (f s).grid = s.grid
  faultValid : ∀ s, (f s).faultValid = s.faultValid
  withOperands : ∀ s c, (f s).withOperands c = f (s.withOperands c)
  appendBlocks : ∀ s b, (f s).appendBlocks b = f (s.appendBlocks b)
  raiseFault : ∀ s k, (f s).raiseFault k = f (s.raiseFault k)

theorem LeavesBlock.perform {f : State → State} (hf : LeavesBlock f) (c : Command) (side : Nat)
    (blocks : Window → Blocks) (s : State) :
    perform c side blocks (f s) = thenNext (perform c side blocks s) f := by
  rcases perform_cases c side blocks s with ⟨hlatch, hp⟩ | ⟨hclear, hfits, hp⟩ | ⟨hclear, hfits, hp⟩
  · rw [hp, perform_of_latched _ _ _ ((hf.faultValid s).trans hlatch), thenNext_next]
  · rw [hp, perform_of_fits _ ((hf.faultValid s).trans hclear) (by rwa [hf.grid]), thenNext_next,
      hf.withOperands, hf.appendBlocks, hf.grid]
  · rw [hp, perform_of_not_fits _ ((hf.faultValid s).trans hclear) (by rwa [hf.grid]),
      thenNext_next, hf.withOperands, hf.raiseFault]

theorem LeavesBlock.exec {f : State → State} (hf : LeavesBlock f) (i : Instr) (s : State) :
    exec i (f s) = thenNext (exec i s) f := by
  rw [exec_eq_perform, exec_eq_perform, hf.perform]

theorem LeavesBlock.issue {f : State → State} (hf : LeavesBlock f) (c : Command) (s : State) :
    issue c (f s) = thenNext (issue c s) f := by
  cases hd : decode c with
  | operation i => rw [issue_of_operation _ hd, issue_of_operation _ hd, hf.exec]
  | reserved =>
    rw [issue_of_reserved _ hd, issue_of_reserved _ hd, thenNext_next, performReserved,
      performReserved, hf.faultValid, hf.withOperands, hf.raiseFault]
    split <;> rfl

theorem leavesBlock_config (cfg : ConversionConfig) :
    LeavesBlock fun s => { s with config := cfg } where
  grid _ := rfl
  faultValid _ := rfl
  withOperands _ _ := rfl
  appendBlocks _ _ := rfl
  raiseFault s k := by
    simp only [State.raiseFault]
    split <;> rfl

/-- Settles O28: ConversionConfig is a host field. -/
theorem commandsIgnoreConfig : Obligations.CommandsIgnoreConfig :=
  fun i s cfg => (leavesBlock_config cfg).exec i s

end Sys2Proof.Machine
end

section
/-! PROOF. The cells of CONVERT's walk as lists (45_image_walker.md): how many there are, where the n-th lies and where its blocks stand (R116, R117, R122), that they cover the truncated extent once (R121), and that row ranges concatenate (R54). -/

namespace Sys2Proof.Machine

/-! ### The list of cells -/

theorem Layout.cellSize_pos (l : Layout) : 0 < Layout.cellSize l := by
  cases l <;> decide

/-- The cells of a run are the pairs of a cell-row and a cell-column, scaled by the cell size. -/
theorem runCells_eq_map_product (l : Layout) (g : Grid) :
    runCells l g =
      (List.range (g.height / Layout.cellSize l) ×ˢ List.range (g.width / Layout.cellSize l)).map
        (Prod.map (· * Layout.cellSize l) (· * Layout.cellSize l)) := by
  simp [runCells, cellRows, SProd.sprod, List.product, List.map_flatMap, Function.comp_def]

theorem runCells_length (l : Layout) (g : Grid) :
    (runCells l g).length = g.height / Layout.cellSize l * (g.width / Layout.cellSize l) := by
  simp [runCells_eq_map_product, List.length_product]

theorem mem_runCells {l : Layout} {g : Grid} {cell : Nat × Nat} :
    cell ∈ runCells l g ↔ ∃ i j, i < g.height / Layout.cellSize l ∧ j < g.width / Layout.cellSize l ∧
      cell = (i * Layout.cellSize l, j * Layout.cellSize l) := by
  simp only [runCells_eq_map_product, List.mem_map, List.mem_product, List.mem_range, Prod.exists,
    Prod.map_apply, and_assoc, eq_comm]

/-- The cell in cell-row `i` and cell-column `j` is number `i * cw + j` (R122). -/
theorem runCells_getElem? {l : Layout} {g : Grid} {i j : Nat} (hi : i < g.height / Layout.cellSize l)
    (hj : j < g.width / Layout.cellSize l) :
    (runCells l g)[i * (g.width / Layout.cellSize l) + j]? =
      some (i * Layout.cellSize l, j * Layout.cellSize l) := by
  simp only [runCells, cellRows]
  rw [Nat.mul_comm i, flatMap_getElem?_of_length (by simp) hj]
  simp [hi, hj]

/-- Settles O33: cell `n` is in cell-row `n / cw` and cell-column `n % cw`. -/
theorem nthCellOfRun : Obligations.NthCellOfRun := by
  intro l g n size cw
  refine ⟨runCells_length l g, fun hn => ?_⟩
  have hcw : 0 < cw := Nat.pos_of_ne_zero fun h => by simp [h] at hn
  have hcell := runCells_getElem? (l := l) (g := g)
    (Nat.div_lt_of_lt_mul (Nat.mul_comm _ cw ▸ hn)) (Nat.mod_lt n hcw)
  rwa [Nat.div_add_mod', Nat.mul_comm, Nat.mul_comm (n % _)] at hcell

theorem runCells_nodup (l : Layout) (g : Grid) : (runCells l g).Nodup := by
  have hinj : Function.Injective (· * Layout.cellSize l) :=
    mul_left_injective₀ (Layout.cellSize_pos l).ne'
  rw [runCells_eq_map_product]
  exact (List.nodup_range.product List.nodup_range).map (hinj.prodMap hinj)

/-- Cell-row `i` of a dimension ends inside its truncated extent (R115). -/
theorem cell_end_le_truncated {n size i : Nat} (hi : i < n / size) :
    i * size + size ≤ truncated n size := by
  rw [truncated, ← Nat.succ_mul]
  exact Nat.mul_le_mul_right size hi

/-- The truncated extent is no larger than the dimension (R115). -/
theorem truncated_le (n size : Nat) : truncated n size ≤ n := Nat.div_mul_le_self n size

/-- Settles O35: pixel (row, col) lies in the cell of its quotients by the cell size and in no other. -/
theorem cellsTileTruncatedExtent : Obligations.CellsTileTruncatedExtent := by
  intro l g row col size
  have hsize : 0 < size := Layout.cellSize_pos l
  refine ⟨runCells_nodup l g, fun ⟨hrow, hcol⟩ => ?_, fun cell hcell => ?_⟩
  · refine ⟨(row / size * size, col / size * size),
      ⟨mem_runCells.mpr ⟨_, _, (Nat.div_lt_iff_lt_mul hsize).mpr hrow,
        (Nat.div_lt_iff_lt_mul hsize).mpr hcol, rfl⟩,
        Nat.div_mul_le_self row size, Nat.lt_div_mul_add hsize,
        Nat.div_mul_le_self col size, Nat.lt_div_mul_add hsize⟩, ?_⟩
    rintro cell ⟨hmem, hrow₁, hrow₂, hcol₁, hcol₂⟩
    obtain ⟨i, j, -, -, rfl⟩ := mem_runCells.mp hmem
    have hi : row / size = i := Nat.div_eq_of_lt_le hrow₁ (Nat.succ_mul i size ▸ hrow₂)
    have hj : col / size = j := Nat.div_eq_of_lt_le hcol₁ (Nat.succ_mul j size ▸ hcol₂)
    rw [hi, hj]
  · obtain ⟨i, j, hi, hj, rfl⟩ := mem_runCells.mp hcell
    exact ⟨cell_end_le_truncated hi, cell_end_le_truncated hj⟩

/-! ### The blocks of a list of cells -/

/-- The operation of a layout at given offsets (R59, R119). -/
def walkOperation : Layout → Nat → Nat → Instr
  | .sprite16 => .encSprite16
  | .tile8 => .encTile8
  | .tile16Meta => .encMeta16

theorem decode_walkCommand (s : State) :
    decode s.walkCommand = .operation (walkOperation s.config.layout s.walkCol s.walkRow) := by
  unfold State.walkCommand
  cases s.config.layout <;> rfl

theorem opSide_walkOperation (l : Layout) (c r : Nat) :
    opSide (walkOperation l c r) = Layout.cellSize l := by
  cases l <;> rfl

theorem opBlocks_walkOperation (l : Layout) (c r : Nat) :
    opBlocks (walkOperation l c r) = Layout.blocks l := by
  cases l <;> rfl

theorem opBlockSize_walkOperation (l : Layout) (c r : Nat) :
    opBlockSize (walkOperation l c r) = Layout.blockSize l := by
  cases l <;> rfl

theorem Layout.blocks_planar_length (l : Layout) (P : Window) :
    (Layout.blocks l P).planar.length = Layout.blockSize l := by
  rw [← opBlocks_walkOperation l 0 0, opBlocks_planar_length, opBlockSize_walkOperation]

theorem Layout.blocks_linear_length (l : Layout) (P : Window) :
    (Layout.blocks l P).linear.length = Layout.blockSize l := by
  rw [← opBlocks_walkOperation l 0 0, opBlocks_linear_length, opBlockSize_walkOperation]

/-- Equal parts concatenated have their number times their length. -/
theorem flatMap_length_of_length {α β : Type} {f : α → List β} {m : Nat}
    (hf : ∀ x, (f x).length = m) (xs : List α) : (xs.flatMap f).length = xs.length * m := by
  simp [List.length_flatMap, hf]

/-- Where every part has `m` entries, part `n` stands at entries `n * m` to `n * m + m - 1`. -/
theorem flatMap_drop_take_of_length {α β : Type} {f : α → List β} {m : Nat}
    (hf : ∀ x, (f x).length = m) {xs : List α} {n : Nat} {x : α} (hx : xs[n]? = some x) :
    ((xs.flatMap f).drop (n * m)).take m = f x := by
  induction xs generalizing n with
  | nil => simp at hx
  | cons y rest ih =>
    cases n with
    | zero =>
      obtain rfl : y = x := by simpa using hx
      simp [← hf y]
    | succ n =>
      rw [List.flatMap_cons, Nat.succ_mul, Nat.add_comm, ← List.drop_drop, ← hf y, List.drop_left, hf y]
      exact ih (by simpa using hx)

/-- Settles O34: every block of a layout has the same size. -/
theorem nthBlockOfRun : Obligations.NthBlockOfRun := by
  intro l g n cell
  have hplanar : ∀ c : Nat × Nat,
      (Layout.blocks l (g.windowAt c.2 c.1)).planar.length = Layout.blockSize l :=
    fun _ => Layout.blocks_planar_length l _
  have hlinear : ∀ c : Nat × Nat,
      (Layout.blocks l (g.windowAt c.2 c.1)).linear.length = Layout.blockSize l :=
    fun _ => Layout.blocks_linear_length l _
  exact ⟨flatMap_length_of_length hplanar _, flatMap_length_of_length hlinear _, fun hcell =>
    ⟨flatMap_drop_take_of_length hplanar hcell, flatMap_drop_take_of_length hlinear hcell⟩⟩

@[simp] theorem encodeCells_nil (l : Layout) (g : Grid) :
    encodeCells l g [] = { planar := [], linear := [] } := rfl

/-- The streams of two lists of cells in a row (R53). -/
theorem encodeCells_append (l : Layout) (g : Grid) (xs ys : List (Nat × Nat)) :
    encodeCells l g (xs ++ ys) =
      { planar := (encodeCells l g xs).planar ++ (encodeCells l g ys).planar
        linear := (encodeCells l g xs).linear ++ (encodeCells l g ys).linear } := by
  simp [encodeCells]

/-- A range of cell-rows is any first part of it followed by the rest (R161). -/
theorem cellRows_append (size cw start m n : Nat) :
    cellRows size cw start (m + n) = cellRows size cw start m ++ cellRows size cw (start + m) n := by
  simp [cellRows, List.range_add, List.flatMap_map, Nat.add_assoc]

/-- Settles O36: the two row ranges concatenate to all cell-rows, and so do their blocks. -/
theorem rowPartitionConforms : Obligations.RowPartitionConforms := by
  intro l g k hk size cw first second
  have hcells : cellRows size cw 0 k ++ cellRows size cw k (g.height / size - k) = runCells l g := by
    have h := cellRows_append size cw 0 k (g.height / size - k)
    rw [Nat.zero_add, Nat.add_sub_of_le hk] at h
    exact h.symm
  rw [Safety.ConformingStreams, walkBlocks, ← hcells, encodeCells_append]

/-- Settles O37: one of the two counts of whole cells is 0. -/
theorem smallGridGivesNoCommand : Obligations.SmallGridGivesNoCommand := by
  intro l g hsmall
  have hcells : runCells l g = [] := by
    rw [← List.length_eq_zero_iff, runCells_length, Nat.mul_eq_zero]
    exact hsmall.symm.imp Nat.div_eq_of_lt Nat.div_eq_of_lt
  exact ⟨hcells, by rw [walkBlocks, hcells, encodeCells_nil]⟩

end Sys2Proof.Machine
end

section
/-! PROOF. The steps of the machine: that every state has a next one, what a step at a command does (R58, R119), and what the steps of a run do to latch and streams, in which order they come and how they end it (R24 to R27, R133 to R143, R150, R154). -/

namespace Sys2Proof.Machine

/-! ### Every step answers -/

theorem issue_answers (c : Command) (s : State) : ∃ t, issue c s = .next t := by
  rcases issue_cases c s with ⟨-, hi⟩ | ⟨-, i, -, ⟨-, hi⟩ | ⟨-, hi⟩⟩ | ⟨-, -, hi⟩
  all_goals exact ⟨_, hi⟩

theorem walkStep_answers (s : State) : ∃ t, walkStep s = .next t := by
  obtain ⟨u, hu⟩ := issue_answers s.walkCommand s
  simp only [walkStep, hu, thenNext_next]
  split
  · split <;> exact ⟨_, rfl⟩
  · exact ⟨_, rfl⟩

/-- Settles O55: of the steps only those that hand over a command could stop, and commands answer. -/
theorem everyStepAnswers : Obligations.EveryStepAnswers := by
  intro s
  cases hp : s.phase with
  | idle => exact ⟨_, step_idle hp⟩
  | decode => exact ⟨_, step_decode hp⟩
  | colourCheck => exact ⟨_, step_colourCheck hp⟩
  | configure => exact ⟨_, step_configure hp⟩
  | resetBlock => exact ⟨_, step_resetBlock hp⟩
  | write => exact ⟨_, step_write hp⟩
  | ended => exact ⟨_, step_ended hp⟩
  | commands =>
    cases hprog : s.program with
    | convert => rw [step_convert hp hprog]; exact walkStep_answers s
    | direct commands =>
      cases commands with
      | nil => exact ⟨_, step_direct_done hp hprog⟩
      | cons c rest => rw [step_direct hp hprog]; exact issue_answers c _

/-! ### Steps at a command -/

/-- Settles O29: the host's next command is handed over with the command taken off the list. -/
theorem stepRunsDecodedCommand : Obligations.StepRunsDecodedCommand := by
  intro s c rest hp hprog
  rw [step_direct hp hprog]
  exact ⟨fun i => issue_of_operation _, issue_of_reserved _⟩

theorem decodeTableWord_eq_some {nbits w : Nat} {i : Instr} (h : decodeTableWord nbits w = some i) :
    decode (commandOfWord nbits w) = .operation i := by
  unfold decodeTableWord at h
  split at h <;> simp_all

/-- Settles O30: the placed word is the host's only command. -/
theorem stepRunsPlacedWord : Obligations.StepRunsPlacedWord := fun s nbits w i h =>
  (stepRunsDecodedCommand (s.withFetchWord nbits w) (commandOfWord nbits w) [] rfl rfl).1 i
    (decodeTableWord_eq_some h)

/-- Outcomes are passed on alike by functions that agree on the next state. -/
theorem thenNext_congr {o : Host.Outcome State Fault Refusal} {f g : State → State}
    (h : ∀ t, o = .next t → f t = g t) : thenNext o f = thenNext o g := by
  cases o with
  | next t => exact congrArg Host.Outcome.next (h t rfl)
  | fault => rfl
  | refused => rfl

theorem thenNext_thenNext (o : Host.Outcome State Fault Refusal) (f g : State → State) :
    thenNext (thenNext o f) g = thenNext o fun t => g (f t) := by
  cases o <;> rfl

/-- With a cell left the walk issues its command, and stops or moves its cursor (R119). -/
theorem walkStep_of_cell {s : State}
    (hrow : s.walkRow < truncated s.grid.height (Layout.cellSize s.config.layout))
    (hcol : s.walkCol < truncated s.grid.width (Layout.cellSize s.config.layout)) :
    walkStep s = thenNext (issue s.walkCommand s) fun t =>
      if t.faultValid then t.withPhase .write
      else t.advanceCursor (Layout.cellSize s.config.layout)
        (truncated s.grid.width (Layout.cellSize s.config.layout)) := by
  simp only [walkStep, hrow, hcol, if_true]

/-- A row without a whole cell is passed without a command (log 17). -/
theorem walkStep_of_no_cell {s : State}
    (hrow : s.walkRow < truncated s.grid.height (Layout.cellSize s.config.layout))
    (hcol : truncated s.grid.width (Layout.cellSize s.config.layout) ≤ s.walkCol) :
    walkStep s = .next (s.withCursor (s.walkRow + Layout.cellSize s.config.layout) 0) := by
  simp only [walkStep, hrow, hcol.not_gt, if_true, if_false]

/-- With no row left the walk ends (R119). -/
theorem walkStep_of_no_row {s : State}
    (hrow : truncated s.grid.height (Layout.cellSize s.config.layout) ≤ s.walkRow) :
    walkStep s = .next (s.withPhase .write) := by
  simp only [walkStep, hrow.not_gt, if_false]

/-- Settles O31: the cursor is moved from where it stood, since no command moves it. -/
theorem convertStepRunsCellCommand : Obligations.ConvertStepRunsCellCommand := by
  intro s hp hprog size h w
  rw [step_convert hp hprog]
  refine ⟨fun hrow hcol => ⟨_, decode_walkCommand s, ?_⟩, walkStep_of_no_cell, walkStep_of_no_row⟩
  rw [walkStep_of_cell hrow hcol, issue_of_operation s (decode_walkCommand s)]
  refine thenNext_congr fun t ht => ?_
  rw [exec_frame ht]
  rfl

/-! ### Latch and streams through the steps -/

/-- What the host can observe of the block: the latch and both streams (R147). -/
def State.output (s : State) : Bool × BitVec 2 × List Byte × List Byte :=
  (s.faultValid, s.faultCode, s.planar, s.linear)

theorem decodeStep_output (s : State) : (decodeStep s).output = s.output := by
  unfold decodeStep
  split <;> rfl

theorem colourCheckStep_output (s : State) : (colourCheckStep s).output = s.output := by
  unfold colourCheckStep
  split <;> rfl

theorem writeStep_output (s : State) : (writeStep s).output = s.output := by
  rcases writeStep_cases s with ⟨-, hw⟩ | ⟨-, -, hw⟩ | ⟨-, -, hw⟩
  all_goals
    rw [hw]
    rfl

/-- From `s` to `t` the block has only appended, and nothing at all if its latch was set. -/
def BlockGrows (s t : State) : Prop :=
  (s.faultValid = true → t.output = s.output) ∧
  ∃ p l, t.planar = s.planar ++ p ∧ t.linear = s.linear ++ l

theorem State.output_eq_iff {s t : State} : t.output = s.output ↔
    t.faultValid = s.faultValid ∧ t.faultCode = s.faultCode ∧ t.planar = s.planar ∧
      t.linear = s.linear := by
  simp [State.output]

theorem blockGrows_of_output_eq {s t : State} (h : t.output = s.output) : BlockGrows s t := by
  obtain ⟨-, -, hplanar, hlinear⟩ := State.output_eq_iff.mp h
  exact ⟨fun _ => h, [], [], by simp [hplanar], by simp [hlinear]⟩

theorem BlockGrows.of_output_eq {s t u : State} (h : BlockGrows s u) (hout : t.output = u.output) :
    BlockGrows s t := by
  obtain ⟨hlatched, p, l, hplanar, hlinear⟩ := h
  obtain ⟨-, -, hp, hl⟩ := State.output_eq_iff.mp hout
  exact ⟨fun hs => hout.trans (hlatched hs), p, l, hp.trans hplanar, hl.trans hlinear⟩

theorem issue_grows {c : Command} {s t : State} (h : issue c s = .next t) : BlockGrows s t := by
  rcases issue_cases c s with ⟨-, hi⟩ | ⟨hclear, i, -, ⟨-, hi⟩ | ⟨-, hi⟩⟩ | ⟨hclear, -, hi⟩
  all_goals obtain rfl := Host.Outcome.next.inj (hi.symm.trans h)
  · exact blockGrows_of_output_eq rfl
  · exact ⟨by simp [hclear], _, _, rfl, rfl⟩
  · exact ⟨by simp [hclear], [], [], by simp, by simp⟩
  · exact ⟨by simp [hclear], [], [], by simp, by simp⟩

/-- All that a step at the commands can do: one command is handed over or none, and the host goes on,
turns to the writing, or moves its cursor. -/
theorem step_commands_cases {s t : State} (hs : s.phase = .commands) (h : step s = .next t) :
    ∃ p u, (u = s.withProgram p ∨ ∃ c, issue c (s.withProgram p) = .next u) ∧
      (t = u ∨ t = u.withPhase .write ∨ ∃ row col, t = u.withCursor row col) := by
  cases hprog : s.program with
  | convert =>
    have hsame : s.withProgram s.program = s := rfl
    rw [step_convert hs hprog] at h
    refine ⟨s.program, ?_⟩
    simp only [walkStep] at h
    split at h
    · split at h
      · obtain ⟨u, hu, rfl⟩ := thenNext_eq_next h
        refine ⟨u, .inr ⟨_, hsame.symm ▸ hu⟩, .inr ?_⟩
        unfold State.advanceCursor
        split
        · exact .inl rfl
        · split <;> exact .inr ⟨_, _, rfl⟩
      · obtain rfl := Host.Outcome.next.inj h
        exact ⟨s, .inl rfl, .inr (.inr ⟨_, _, rfl⟩)⟩
    · obtain rfl := Host.Outcome.next.inj h
      exact ⟨s, .inl rfl, .inr (.inl rfl)⟩
  | direct commands =>
    cases commands with
    | nil =>
      obtain rfl := Host.Outcome.next.inj ((step_direct_done hs hprog).symm.trans h)
      exact ⟨s.program, s, .inl rfl, .inr (.inl rfl)⟩
    | cons c rest => exact ⟨_, t, .inr ⟨c, step_direct hs hprog ▸ h⟩, .inl rfl⟩

theorem step_commands_grows {s t : State} (hs : s.phase = .commands) (h : step s = .next t) :
    BlockGrows s t := by
  obtain ⟨p, u, hu, ht⟩ := step_commands_cases hs h
  have hgrows : BlockGrows s u := by
    rcases hu with rfl | ⟨c, hc⟩
    · exact blockGrows_of_output_eq rfl
    · exact issue_grows (s := s.withProgram p) hc
  refine hgrows.of_output_eq ?_
  rcases ht with rfl | rfl | ⟨row, col, rfl⟩ <;> rfl

/-! #### The wait -/

theorem step_waiting {s : State} (h : s.phase = .idle ∨ s.phase = .ended) :
    step s = .next (waitStep s) :=
  h.elim step_idle step_ended

theorem waitStep_of_no_launch {s : State} (h : s.launches = []) : waitStep s = s := by
  simp [waitStep, h]

theorem waitStep_of_launch {s : State} {l : Launch} {rest : List Launch} (h : s.launches = l :: rest) :
    waitStep s = s.beginRun l rest := by
  simp [waitStep, h]

/-- All that a step can do: what is so of the outcome of the phase the host stands in is so of the next
state (R154). -/
theorem step_elim {s t : State} {Q : State → Prop} (h : step s = .next t)
    (wait : s.phase = .idle ∨ s.phase = .ended → Q (waitStep s))
    (decode : s.phase = .decode → Q (decodeStep s))
    (colourCheck : s.phase = .colourCheck → Q (colourCheckStep s))
    (configure : s.phase = .configure → Q (configureStep s))
    (resetBlock : s.phase = .resetBlock → Q (s.resetBlock.withPhase .commands))
    (commands : s.phase = .commands → Q t)
    (write : s.phase = .write → Q (writeStep s)) : Q t := by
  cases hp : s.phase with
  | idle => exact Host.Outcome.next.inj ((step_idle hp).symm.trans h) ▸ wait (.inl hp)
  | decode => exact Host.Outcome.next.inj ((step_decode hp).symm.trans h) ▸ decode hp
  | colourCheck => exact Host.Outcome.next.inj ((step_colourCheck hp).symm.trans h) ▸ colourCheck hp
  | configure => exact Host.Outcome.next.inj ((step_configure hp).symm.trans h) ▸ configure hp
  | resetBlock => exact Host.Outcome.next.inj ((step_resetBlock hp).symm.trans h) ▸ resetBlock hp
  | commands => exact commands hp
  | write => exact Host.Outcome.next.inj ((step_write hp).symm.trans h) ▸ write hp
  | ended => exact Host.Outcome.next.inj ((step_ended hp).symm.trans h) ▸ wait (.inr hp)

/-- All steps but the beginning of a run and its block reset let the block only append. -/
theorem step_grows {s t : State} (h : step s = .next t) (hreset : s.phase ≠ .resetBlock)
    (hwait : s.phase = .idle ∨ s.phase = .ended → s.launches = []) : BlockGrows s t := by
  refine step_elim h (fun hp => ?wait) (fun _ => ?decode) (fun _ => ?colourCheck) (fun _ => ?configure)
    (fun hp => absurd hp hreset) (fun hp => step_commands_grows hp h) (fun _ => ?write)
  case wait =>
    rw [waitStep_of_no_launch (hwait hp)]
    exact blockGrows_of_output_eq rfl
  case decode => exact blockGrows_of_output_eq (decodeStep_output s)
  case colourCheck => exact blockGrows_of_output_eq (colourCheckStep_output s)
  case configure => exact blockGrows_of_output_eq rfl
  case write => exact blockGrows_of_output_eq (writeStep_output s)

/-- Settles O50: from a set latch on, a step leaves latch and streams. -/
theorem latchIsSticky : Obligations.LatchIsSticky := by
  intro s t h hlatch hreset hwait
  obtain ⟨hvalid, hrest⟩ := State.output_eq_iff.mp ((step_grows h hreset hwait).1 hlatch)
  exact ⟨hvalid.trans hlatch, hrest⟩

/-- Settles O51: what a step adds stands at the end. -/
theorem streamsOnlyGrow : Obligations.StreamsOnlyGrow :=
  fun _ _ h hreset hwait => (step_grows h hreset hwait).2

/-! ### The order of a run -/

theorem decodeStep_phase (s : State) :
    (decodeStep s).phase = .colourCheck ∨ (decodeStep s).phase = .ended := by
  unfold decodeStep
  split <;> simp

theorem colourCheckStep_phase (s : State) :
    (colourCheckStep s).phase = .configure ∨ (colourCheckStep s).phase = .ended := by
  unfold colourCheckStep
  split <;> simp

theorem writeStep_phase (s : State) : (writeStep s).phase = .ended := by
  rcases writeStep_cases s with ⟨-, hw⟩ | ⟨-, -, hw⟩ | ⟨-, -, hw⟩
  all_goals
    rw [hw]
    rfl

/-- Settles O53, phase by phase. -/
theorem bootAndRunOrder : Obligations.BootAndRunOrder := by
  intro s t h
  refine ⟨fun hp => ?_, fun hp => ?_, fun hp => ?_, fun hp => ?_, fun hp => step_commands_phase hp h,
    fun hp => ?_⟩
  · obtain rfl := Host.Outcome.next.inj ((step_decode hp).symm.trans h)
    exact decodeStep_phase s
  · obtain rfl := Host.Outcome.next.inj ((step_colourCheck hp).symm.trans h)
    exact colourCheckStep_phase s
  · obtain rfl := Host.Outcome.next.inj ((step_configure hp).symm.trans h)
    exact ⟨rfl, rfl⟩
  · obtain rfl := Host.Outcome.next.inj ((step_resetBlock hp).symm.trans h)
    rfl
  · obtain rfl := Host.Outcome.next.inj ((step_write hp).symm.trans h)
    exact writeStep_phase s

/-! ### Silence -/

/-- `s` with the command line's `--silence` as `b` (R150). -/
def State.withSilence (b : Bool) (s : State) : State :=
  { s with commandLine := { s.commandLine with silence := b } }

theorem leavesBlock_withSilence (b : Bool) : LeavesBlock (State.withSilence b) where
  grid _ := rfl
  faultValid _ := rfl
  withOperands _ _ := rfl
  appendBlocks _ _ := rfl
  raiseFault s k := by
    simp only [State.raiseFault, apply_ite (State.withSilence b)]
    rfl

theorem State.advanceCursor_withSilence (b : Bool) (s : State) (size w : Nat) :
    (s.withSilence b).advanceCursor size w = (s.advanceCursor size w).withSilence b := by
  simp only [State.advanceCursor, apply_ite (State.withSilence b)]
  rfl

theorem decodeStep_withSilence (b : Bool) (s : State) :
    decodeStep (s.withSilence b) = (decodeStep s).withSilence b := by
  cases himage : s.image <;> simp [decodeStep, State.withSilence, State.endRun, himage]

theorem colourCheckStep_withSilence (b : Bool) (s : State) :
    colourCheckStep (s.withSilence b) = (colourCheckStep s).withSilence b := by
  simp only [colourCheckStep, apply_ite (State.withSilence b)]
  rfl

theorem writeStep_withSilence (b : Bool) (s : State) :
    writeStep (s.withSilence b) = (writeStep s).withSilence b := by
  simp only [writeStep, apply_ite (State.withSilence b)]
  rfl

theorem walkStep_withSilence (b : Bool) (s : State) :
    walkStep (s.withSilence b) = thenNext (walkStep s) (State.withSilence b) := by
  rcases Nat.lt_or_ge s.walkRow (truncated s.grid.height (Layout.cellSize s.config.layout))
    with hrow | hrow
  · rcases Nat.lt_or_ge s.walkCol (truncated s.grid.width (Layout.cellSize s.config.layout))
      with hcol | hcol
    · rw [walkStep_of_cell hrow hcol, walkStep_of_cell (s := s.withSilence b) hrow hcol,
        show (s.withSilence b).walkCommand = s.walkCommand from rfl,
        (leavesBlock_withSilence b).issue, thenNext_thenNext, thenNext_thenNext]
      refine thenNext_congr fun t _ => ?_
      rw [apply_ite (State.withSilence b), ← State.advanceCursor_withSilence]
      rfl
    · rw [walkStep_of_no_cell hrow hcol, walkStep_of_no_cell (s := s.withSilence b) hrow hcol]
      rfl
  · rw [walkStep_of_no_row hrow, walkStep_of_no_row (s := s.withSilence b) hrow]
    rfl

/-- Settles O54: no step of a run looks at `--silence`. -/
theorem silenceChangesNothing : Obligations.SilenceChangesNothing := by
  intro s b hwait
  change step (s.withSilence b) = thenNext (step s) (State.withSilence b)
  cases hp : s.phase with
  | idle =>
    have hlaunches := hwait (.inl hp)
    rw [step_idle hp, step_idle (s := s.withSilence b) hp, waitStep_of_no_launch hlaunches,
      waitStep_of_no_launch (s := s.withSilence b) hlaunches, thenNext_next]
  | decode =>
    rw [step_decode hp, step_decode (s := s.withSilence b) hp, decodeStep_withSilence, thenNext_next]
  | colourCheck =>
    rw [step_colourCheck hp, step_colourCheck (s := s.withSilence b) hp, colourCheckStep_withSilence,
      thenNext_next]
  | configure =>
    rw [step_configure hp, step_configure (s := s.withSilence b) hp]
    rfl
  | resetBlock =>
    rw [step_resetBlock hp, step_resetBlock (s := s.withSilence b) hp]
    rfl
  | commands =>
    cases hprog : s.program with
    | convert =>
      rw [step_convert hp hprog, step_convert (s := s.withSilence b) hp hprog, walkStep_withSilence]
    | direct commands =>
      cases commands with
      | nil =>
        rw [step_direct_done hp hprog, step_direct_done (s := s.withSilence b) hp hprog]
        rfl
      | cons c rest =>
        rw [step_direct hp hprog, step_direct (s := s.withSilence b) hp hprog]
        exact (leavesBlock_withSilence b).issue c (s.withProgram (.direct rest))
  | write =>
    rw [step_write hp, step_write (s := s.withSilence b) hp, writeStep_withSilence, thenNext_next]
  | ended =>
    have hlaunches := hwait (.inr hp)
    rw [step_ended hp, step_ended (s := s.withSilence b) hp, waitStep_of_no_launch hlaunches,
      waitStep_of_no_launch (s := s.withSilence b) hlaunches, thenNext_next]

/-! ### The beginning of a run -/

/-- Settles O39: after reset no run is asked for, so the wait goes on. -/
theorem resetWaitsForHost : Obligations.ResetWaitsForHost :=
  ⟨rfl, rfl, rfl, rfl, rfl, rfl, rfl, step_idle rfl⟩

/-- Settles O40: of the state before it a run keeps the free-value counter only. -/
theorem runsShareNoState : Obligations.RunsShareNoState := by
  intro s t l rest hs ht hsl htl hfree
  have hbegin : s.beginRun l rest = t.beginRun l rest := by rw [State.beginRun, State.beginRun, hfree]
  rw [step_waiting hs, step_waiting ht, waitStep_of_launch hsl, waitStep_of_launch htl, hbegin]
  exact ⟨rfl, _, rfl, rfl, rfl, rfl, rfl, rfl⟩

/-- A run of steps goes on from the state its first step answers. -/
theorem run_succ {s t : State} (n : Nat) (h : step s = .next t) :
    Host.Core.run core (n + 1) s = Host.Core.run core n t := by
  have hstep : core.step s = .next t := h
  simp only [Host.Core.run, hstep]

theorem decodeStep_of_image {s : State} {im : Image} (h : s.image = some im) :
    decodeStep s = { s with grid := im.grid, colourMode := im.colourMode, phase := .colourCheck } := by
  simp [decodeStep, h]

theorem decodeStep_of_no_image {s : State} (h : s.image = none) :
    decodeStep s = s.endRun (some .imageDecodeError) 1 [] := by
  simp [decodeStep, h]

/-- From the wait, a run asked for begins. -/
theorem step_beginRun {s : State} {l : Launch} {rest : List Launch}
    (hs : s.phase = .idle ∨ s.phase = .ended) (hl : s.launches = l :: rest) :
    step s = .next (s.beginRun l rest) := by
  rw [step_waiting hs, waitStep_of_launch hl]

/-- Settles O41: the run begins, is decoded, and fails the colour check. -/
theorem nonIndexedImageEndsRun : Obligations.NonIndexedImageEndsRun := by
  intro s l rest im hs hl himage hmode
  have hdecode := decodeStep_of_image (s := s.beginRun l rest) himage
  rw [run_succ 2 (step_beginRun hs hl), run_succ 1 (step_decode rfl), hdecode,
    run_succ 0 (step_colourCheck rfl), colourCheckStep, if_neg (by simp [hmode])]
  exact ⟨_, rfl, rfl, rfl, rfl, rfl, rfl, rfl, rfl⟩

/-- Settles O42: the run begins and has no image to decode. -/
theorem undecodableImageEndsRun : Obligations.UndecodableImageEndsRun := by
  intro s l rest hs hl himage
  rw [run_succ 1 (step_beginRun hs hl), run_succ 0 (step_decode rfl),
    decodeStep_of_no_image (s := s.beginRun l rest) himage]
  exact ⟨_, rfl, rfl, rfl, rfl, rfl, rfl, rfl⟩

/-! ### The end of a run -/

theorem writeStep_of_latched {s : State} (h : s.faultValid = true) :
    writeStep s = s.endRun (some (.blockFault s.faultCode)) 1 [] := by
  simp [writeStep, h]

theorem writeStep_of_writable {s : State} (h : s.faultValid = false)
    (hw : s.writtenStreams.all s.writable = true) : writeStep s = s.endRun none 0 s.outputFiles := by
  simp [writeStep, h, hw]

theorem writeStep_of_unwritable {s : State} (h : s.faultValid = false)
    (hw : s.writtenStreams.all s.writable = false) : writeStep s =
      { s.endRun (some .ioError) 1 s.remnantFiles with freeCount := s.freeCount + 1 } := by
  simp [writeStep, h, hw]

/-- The planar file is always to be written, the linear one if `emit_linear` (R140). -/
theorem all_writable_iff (s : State) : s.writtenStreams.all s.writable = true ↔
    s.planarWritable = true ∧ (s.config.emitLinear = true → s.linearWritable = true) := by
  cases hemit : s.config.emitLinear <;> simp [State.writtenStreams, State.writable, hemit]

/-- Settles O43: the latch is looked at before the files. -/
theorem faultedRunWritesNoFile : Obligations.FaultedRunWritesNoFile := by
  intro s hp hlatch
  rw [step_write hp, writeStep_of_latched hlatch]
  rfl

theorem outputFiles_of_no_collision {s : State}
    (h : s.commandLine.fileOut = none ∨ s.config.emitLinear = false) : s.outputFiles =
      { name := s.fileName .planar, bytes := s.planar } ::
        (if s.config.emitLinear then [{ name := s.fileName .linear, bytes := s.linear }] else []) := by
  rw [State.outputFiles, if_neg (by rcases h with h | h <;> simp [h]), State.writtenStreams]
  split <;> rfl

theorem outputFiles_of_collision {s : State} {name : String} (hname : s.commandLine.fileOut = some name)
    (hemit : s.config.emitLinear = true) : s.outputFiles =
      [{ name := s.fileName .planar, bytes := s.stream Config.nameCollisionResult }] := by
  rw [State.outputFiles, if_pos (by simp [hname, hemit])]

/-- Settles O45: where LINEAR is written at all, no `--fileout` names its file. -/
theorem successfulRunWritesStreams : Obligations.SuccessfulRunWritesStreams := by
  intro s hp hclear hplanar hlinear hnames
  rw [step_write hp, writeStep_of_writable hclear ((all_writable_iff s).mpr ⟨hplanar, hlinear⟩),
    outputFiles_of_no_collision hnames]
  rcases hnames with hname | hemit
  · simp [State.endRun, State.fileName, hname, Stream.defaultBase]
  · simp [State.endRun, State.fileName, hemit, Stream.defaultBase]

/-- Settles O46, by the two values the parameter of R143 can have. -/
theorem nameCollisionKeepsOneStream : Obligations.NameCollisionKeepsOneStream := by
  intro s name hp hclear hplanar hlinear hname hemit
  refine ⟨_, (step_write hp).trans (congrArg _
    (writeStep_of_writable hclear ((all_writable_iff s).mpr ⟨hplanar, fun _ => hlinear⟩))),
    rfl, rfl, rfl, s.stream Config.nameCollisionResult, ?_, ?_⟩
  · cases Config.nameCollisionResult with
    | planar => exact .inl rfl
    | linear => exact .inr rfl
  · rw [State.endRun_files, outputFiles_of_collision hname hemit, s.fileName_of_fileOut _ hname]

/-- What stands after an IOError has a name of the run's (93 I7). -/
theorem remnantFiles_name {s : State} {f : OutFile} (h : f ∈ s.remnantFiles) :
    f.name = s.fileName .planar ∨ (s.config.emitLinear = true ∧ f.name = s.fileName .linear) := by
  obtain ⟨n, hn, hf⟩ := List.mem_filterMap.mp h
  obtain ⟨bytes, -, rfl⟩ := Option.map_eq_some_iff.mp hf
  obtain ⟨st, hst, rfl⟩ := List.mem_map.mp (List.mem_eraseDups.mp hn)
  cases st with
  | planar => exact .inl rfl
  | linear =>
    cases hemit : s.config.emitLinear with
    | true => exact .inr ⟨rfl, rfl⟩
    | false => simp [State.writtenStreams, hemit] at hst

/-- Settles O47: an unwritable file that is to be written is found before any is. -/
theorem unwritableFileEndsRunWithIoError : Obligations.UnwritableFileEndsRunWithIoError := by
  intro s hp hclear hfile
  have hw : s.writtenStreams.all s.writable = false := by
    rw [← Bool.not_eq_true, all_writable_iff]
    rintro ⟨hplanar, hlinear⟩
    rcases hfile with h | ⟨hemit, h⟩
    · simp [hplanar] at h
    · simp [hlinear hemit] at h
  exact ⟨_, (step_write hp).trans (congrArg _ (writeStep_of_unwritable hclear hw)), rfl, rfl, rfl, rfl,
    rfl, fun _ => remnantFiles_name⟩

/-! ### The host's reads of a stream -/

theorem State.readStream_of_lt {s : State} {st : Stream} {i : Nat} (h : i < (s.stream st).length) :
    s.readStream st i = .ok (s.stream st)[i] := by
  simp [State.readStream, h]

theorem State.readStream_of_le {s : State} {st : Stream} {i : Nat} (h : (s.stream st).length ≤ i) :
    s.readStream st i = .error .streamReadPastEnd := by
  simp [State.readStream, h]

/-- Settles O49, by the two sides of the stream's length. -/
theorem streamReadsEndAtLength : Obligations.StreamReadsEndAtLength := by
  refine fun s st i => ⟨fun b hb => ?_, fun h => ⟨_, State.readStream_of_lt h⟩, State.readStream_of_le⟩
  rcases Nat.lt_or_ge i (s.stream st).length with h | h
  · rw [State.readStream_of_lt h] at hb
    rw [List.getElem?_eq_getElem h, Except.ok.inj hb]
  · simp [State.readStream_of_le h] at hb

end Sys2Proof.Machine
end

section
/-! PROOF. The state invariant (10_state.md, 20_memory.md, 60_exceptions.md): legal latch, whole blocks, canonical grids and a legal ending hold at reset and are kept by every step. -/

namespace Sys2Proof.Safety

open Sys2Proof.Machine

/-! ### Endings -/

/-- Before its end a run shows no exit status, no file and no error. -/
theorem endingLegal_iff_of_running {s : State} (h : s.phase ≠ .ended) :
    EndingLegal s ↔ s.exitStatus = none ∧ s.files = [] ∧ s.error = none := by
  constructor
  · rintro ⟨hstatus, hrunning, -, -⟩
    exact ⟨Option.not_isSome_iff_eq_none.mp (mt hstatus.mp h), hrunning h⟩
  · rintro ⟨hstatus, hrest⟩
    exact ⟨by simp [hstatus, h], fun _ => hrest, by simp [hstatus], by simp [hstatus]⟩

theorem endingLegal_endRun_error (s : State) (e : RunError) (files : List OutFile) :
    EndingLegal (s.endRun (some e) 1 files) := by
  simp [EndingLegal]

theorem endingLegal_endRun_success {s : State} (h : s.faultValid = false) (files : List OutFile) :
    EndingLegal (s.endRun none 0 files) := by
  simp [EndingLegal, h]

/-! ### What keeps the invariant -/

theorem Inv.withPhase {s : State} {p : Phase} (h : Inv s) (hs : s.phase ≠ .ended) (hp : p ≠ .ended) :
    Inv (s.withPhase p) := by
  obtain ⟨hlatch, hstreams, hgrids, hending⟩ := h
  exact ⟨hlatch, hstreams, hgrids, (endingLegal_iff_of_running (s := s.withPhase p) hp).mpr
    ((endingLegal_iff_of_running hs).mp hending)⟩

theorem Inv.endRun_error {s : State} (h : Inv s) (e : RunError) (files : List OutFile) :
    Inv (s.endRun (some e) 1 files) := by
  obtain ⟨hlatch, hstreams, hgrids, -⟩ := h
  exact ⟨hlatch, hstreams, hgrids, endingLegal_endRun_error s e files⟩

theorem Inv.endRun_success {s : State} (h : Inv s) (hclear : s.faultValid = false)
    (files : List OutFile) : Inv (s.endRun none 0 files) := by
  obtain ⟨hlatch, hstreams, hgrids, -⟩ := h
  exact ⟨hlatch, hstreams, hgrids, endingLegal_endRun_success hclear files⟩

theorem Inv.resetBlock {s : State} (h : Inv s) (hs : s.phase ≠ .ended) : Inv s.resetBlock := by
  obtain ⟨-, -, hgrids, hending⟩ := h
  exact ⟨⟨fun _ => rfl, fun h => absurd h Bool.false_ne_true⟩, ⟨rfl, rfl⟩, hgrids,
    (endingLegal_iff_of_running (s := s.resetBlock) hs).mpr
      ((endingLegal_iff_of_running hs).mp hending)⟩

/-- A run begins from reset with the launch's image, which is canonical as those still pending. -/
theorem Inv.beginRun {s : State} {l : Launch} {rest : List Launch} (h : Inv s)
    (hl : s.launches = l :: rest) : Inv (s.beginRun l rest) := by
  obtain ⟨-, -, ⟨-, -, hpending⟩, -⟩ := h
  rw [hl] at hpending
  exact ⟨⟨fun _ => rfl, fun h => absurd h Bool.false_ne_true⟩, ⟨rfl, rfl⟩,
    ⟨State.reset_grid_wf, hpending l (List.mem_cons_self),
      fun l' hl' => hpending l' (List.mem_cons_of_mem l hl')⟩,
    (endingLegal_iff_of_running (s := s.beginRun l rest) (by simp)).mpr ⟨rfl, rfl, rfl⟩⟩

/-- The image put in place is one of the canonical grids. -/
theorem Inv.decodeStep {s : State} (h : Inv s) (hs : s.phase = .decode) : Inv (decodeStep s) := by
  cases himage : s.image with
  | none =>
    rw [decodeStep_of_no_image himage]
    exact h.endRun_error _ _
  | some im =>
    obtain ⟨hlatch, hstreams, ⟨-, himages, hpending⟩, hending⟩ := h
    have hrunning := (endingLegal_iff_of_running (by simp [hs])).mp hending
    rw [decodeStep_of_image himage]
    exact ⟨hlatch, hstreams, ⟨himages im himage, himages, hpending⟩,
      (endingLegal_iff_of_running (by simp)).mpr hrunning⟩

theorem LatchLegal.raiseFault {s : State} (h : LatchLegal s) (k : FaultCause) :
    LatchLegal (s.raiseFault k) := by
  cases hlatch : s.faultValid with
  | true => rwa [s.raiseFault_of_latched k hlatch]
  | false =>
    rw [State.raiseFault_of_clear k hlatch]
    refine ⟨fun h => absurd h Bool.false_ne_true.symm, fun _ => ?_⟩
    cases k with
    | illegalMode => exact .inl rfl
    | windowOob => exact .inr rfl

theorem StreamsWhole.raiseFault {s : State} (h : StreamsWhole s) (k : FaultCause) :
    StreamsWhole (s.raiseFault k) := by
  simpa [StreamsWhole] using h

/-- Every operation appends as much to one stream as to the other, in multiples of 32 bytes (R72). -/
theorem StreamsWhole.appendBlocks {s : State} (h : StreamsWhole s) (i : Instr) (P : Window) :
    StreamsWhole (s.appendBlocks (opBlocks i P)) := by
  obtain ⟨heq, hmod⟩ := h
  have hsize : opBlockSize i % 32 = 0 := by cases i <;> simp [opBlockSize]
  simp only [StreamsWhole, State.appendBlocks_planar, State.appendBlocks_linear, List.length_append,
    opBlocks_planar_length, opBlocks_linear_length]
  omega

theorem Inv.issue {c : Command} {s t : State} (h : Inv s) (hs : s.phase ≠ .ended)
    (hc : issue c s = .next t) : Inv t := by
  obtain ⟨hlatch, hstreams, hgrids, hending⟩ := h
  have hframe := issue_frame hc
  refine and_assoc.mp ⟨?_, by rw [hframe]; exact hgrids, ?_⟩
  · rcases issue_cases c s with ⟨-, hi⟩ | ⟨-, i, -, ⟨-, hi⟩ | ⟨-, hi⟩⟩ | ⟨-, -, hi⟩
    all_goals obtain rfl := Host.Outcome.next.inj (hi.symm.trans hc)
    · exact ⟨hlatch, hstreams⟩
    · exact ⟨hlatch, StreamsWhole.appendBlocks (s := s.withOperands c) hstreams i _⟩
    · exact ⟨LatchLegal.raiseFault (s := s.withOperands c) hlatch _,
        StreamsWhole.raiseFault (s := s.withOperands c) hstreams _⟩
    · exact ⟨LatchLegal.raiseFault (s := s.withOperands c) hlatch _,
        StreamsWhole.raiseFault (s := s.withOperands c) hstreams _⟩
  · have hrunning := (endingLegal_iff_of_running hs).mp hending
    have hphase : t.phase ≠ .ended := by rwa [issue_keeps_phase hc]
    rw [endingLegal_iff_of_running hphase, hframe]
    exact hrunning

/-! ### The steps -/

theorem Inv.waitStep {s : State} (h : Inv s) : Inv (waitStep s) := by
  cases hl : s.launches with
  | nil => rwa [waitStep_of_no_launch hl]
  | cons l rest =>
    rw [waitStep_of_launch hl]
    exact h.beginRun hl

theorem Inv.colourCheckStep {s : State} (h : Inv s) (hs : s.phase ≠ .ended) :
    Inv (colourCheckStep s) := by
  unfold Machine.colourCheckStep
  split
  · exact h.withPhase hs (by decide)
  · exact h.endRun_error _ _

theorem Inv.writeStep {s : State} (h : Inv s) : Inv (writeStep s) := by
  rcases writeStep_cases s with ⟨-, hw⟩ | ⟨hclear, -, hw⟩ | ⟨-, -, hw⟩
  all_goals rw [hw]
  · exact h.endRun_error _ _
  · exact h.endRun_success hclear _
  · exact h.endRun_error .ioError s.remnantFiles

theorem Inv.step_commands {s t : State} (h : Inv s) (hs : s.phase = .commands)
    (hstep : step s = .next t) : Inv t := by
  obtain ⟨p, u, hu, ht⟩ := step_commands_cases hs hstep
  have hprogram : Inv (s.withProgram p) := h
  have hrunning : (s.withProgram p).phase = .commands := hs
  obtain ⟨hinv, hphase⟩ : Inv u ∧ u.phase = .commands := by
    rcases hu with rfl | ⟨c, hc⟩
    · exact ⟨hprogram, hrunning⟩
    · exact ⟨hprogram.issue (by simp [hs]) hc, (issue_keeps_phase hc).trans hrunning⟩
  rcases ht with rfl | rfl | ⟨row, col, rfl⟩
  · exact hinv
  · exact hinv.withPhase (by simp [hphase]) (by decide)
  · exact hinv

/-- Settles O57, phase by phase: what a step changes it changes in one of the ways above. -/
theorem stepKeepsInvariant : Obligations.StepKeepsInvariant := by
  intro s h
  obtain ⟨t, ht⟩ := everyStepAnswers s
  refine ⟨t, ht, step_elim ht (fun _ => h.waitStep) h.decodeStep (fun hp => ?colourCheck)
    (fun hp => ?configure) (fun hp => ?resetBlock) (fun hp => h.step_commands hp ht)
    (fun _ => h.writeStep)⟩
  case colourCheck => exact h.colourCheckStep (by simp [hp])
  case configure => exact h.withPhase (p := .resetBlock) (by simp [hp]) (by decide)
  case resetBlock => exact (h.resetBlock (by simp [hp])).withPhase (by simp [hp]) (by decide)

theorem inv_reset : Inv State.reset :=
  ⟨⟨fun _ => rfl, fun h => absurd h Bool.false_ne_true⟩, ⟨rfl, rfl⟩,
    ⟨State.reset_grid_wf, by simp [State.reset], by simp [State.reset]⟩,
    (endingLegal_iff_of_running (by decide)).mpr ⟨rfl, rfl, rfl⟩⟩

/-- Settles O56: at reset everything is empty, and the host waits with no CONVERT to walk. -/
theorem resetMeetsInvariants : Obligations.ResetMeetsInvariants :=
  have hprogram : State.reset.program ≠ .convert := by decide
  ⟨inv_reset, fun h => absurd h hprogram, fun h => absurd h hprogram⟩

end Sys2Proof.Safety
end

section
/-! PROOF. CONVERT's walk (45_image_walker.md): no command of it faults (R120), its streams are the blocks of the visited cells all the way (R117, R122), and a run of it ends with those of the whole extent (R119, R154). -/

namespace Sys2Proof.Safety

open Sys2Proof.Machine

/-! ### One command of the walk -/

/-- An aligned offset inside the truncated extent has its whole cell inside the grid (R115). -/
theorem aligned_cell_fits {n size x : Nat} (haligned : x % size = 0) (hx : x < truncated n size) :
    x + size ≤ n := by
  obtain ⟨i, rfl⟩ := Nat.dvd_of_mod_eq_zero haligned
  rw [truncated, Nat.mul_comm size] at hx
  rw [Nat.mul_comm size]
  exact (cell_end_le_truncated (Nat.lt_of_mul_lt_mul_right hx)).trans (truncated_le n size)

/-- The state after the block has encoded the cell at the cursor (R119). -/
def afterCell (s : State) : State :=
  (s.withOperands s.walkCommand).appendBlocks
    (Layout.blocks s.config.layout (s.grid.windowAt s.walkCol s.walkRow))

theorem issue_walkCommand {s : State} (hclear : s.faultValid = false)
    (hfits : s.grid.fits (Layout.cellSize s.config.layout) s.walkCol s.walkRow) :
    issue s.walkCommand s = .next (afterCell s) := by
  have hop := decode_walkCommand s
  have hencode : encode (walkOperation s.config.layout s.walkCol s.walkRow) = s.walkCommand :=
    encode_of_decode hop
  rw [issue_of_operation s hop, exec_eq_perform, hencode, opSide_walkOperation,
    opBlocks_walkOperation, perform_of_fits _ hclear hfits]
  rfl

/-- Where the cursor is aligned, the walk encodes the cell at it and moves on (R119, R120). -/
theorem walkStep_of_aligned_cell {s : State} (hclear : s.faultValid = false)
    (hrowAligned : s.walkRow % Layout.cellSize s.config.layout = 0)
    (hcolAligned : s.walkCol % Layout.cellSize s.config.layout = 0)
    (hrow : s.walkRow < truncated s.grid.height (Layout.cellSize s.config.layout))
    (hcol : s.walkCol < truncated s.grid.width (Layout.cellSize s.config.layout)) :
    walkStep s = .next ((afterCell s).advanceCursor (Layout.cellSize s.config.layout)
      (truncated s.grid.width (Layout.cellSize s.config.layout))) := by
  have hstill : (afterCell s).faultValid = false := hclear
  rw [walkStep_of_cell hrow hcol, issue_walkCommand hclear
    ⟨aligned_cell_fits hrowAligned hrow, aligned_cell_fits hcolAligned hcol⟩, thenNext_next, hstill,
    if_neg Bool.false_ne_true]

/-- Settles O32: the window of an aligned cursor fits, and the cursor moves by whole cells. -/
theorem convertNeverFaults : Obligations.ConvertNeverFaults := by
  intro s hp hprog hclear size hrowAligned hcolAligned
  rw [step_convert hp hprog]
  rcases Nat.lt_or_ge s.walkRow (truncated s.grid.height size) with hrow | hrow
  · rcases Nat.lt_or_ge s.walkCol (truncated s.grid.width size) with hcol | hcol
    · refine ⟨_, walkStep_of_aligned_cell hclear hrowAligned hcolAligned hrow hcol, ?_⟩
      unfold State.advanceCursor
      split
      · exact ⟨hclear, hrowAligned, (Nat.add_mod_right _ _).trans hcolAligned⟩
      · exact ⟨hclear, (Nat.add_mod_right _ _).trans hrowAligned, Nat.zero_mod _⟩
    · exact ⟨_, walkStep_of_no_cell hrow hcol, hclear, (Nat.add_mod_right _ _).trans hrowAligned,
        Nat.zero_mod _⟩
  · exact ⟨_, walkStep_of_no_row hrow, hclear, hrowAligned, hcolAligned⟩

/-! ### The walk at a cell -/

/-- The two streams together (R53). -/
def streams (s : State) : Blocks := { planar := s.planar, linear := s.linear }

/-- Whole cell-rows of the grid at the run's layout (R116). -/
def cellRowCount (s : State) : Nat := s.grid.height / Layout.cellSize s.config.layout

/-- Whole cells in a cell-row (R116). -/
def cellColCount (s : State) : Nat := s.grid.width / Layout.cellSize s.config.layout

/-- The blocks of the first `n` cells of the run (R122). -/
def blocksOfFirst (s : State) (n : Nat) : Blocks :=
  encodeCells s.config.layout s.grid ((runCells s.config.layout s.grid).take n)

/-- The walk, without a fault, about to encode cell-row `i`, cell-column `j`, all cells before it
encoded; `WalkInv` in cell numbers. -/
structure WalkAt (s : State) (i j : Nat) : Prop where
  clear : s.faultValid = false
  row : s.walkRow = i * Layout.cellSize s.config.layout
  col : s.walkCol = j * Layout.cellSize s.config.layout
  row_le : i ≤ cellRowCount s
  col_lt : j < cellColCount s ∨ j = 0
  encoded : streams s = blocksOfFirst s (i * cellColCount s + j)

theorem WalkInv.walkAt {s : State} (h : WalkInv s) (hprog : s.program = .convert)
    (hp : s.phase = .commands) : ∃ i j, WalkAt s i j := by
  obtain ⟨hclear, hrow, hcol, hrowLe, hcolLt, hencoded⟩ := h hprog hp
  have hsize := Layout.cellSize_pos s.config.layout
  exact ⟨_, _, hclear, (Nat.div_mul_cancel (Nat.dvd_of_mod_eq_zero hrow)).symm,
    (Nat.div_mul_cancel (Nat.dvd_of_mod_eq_zero hcol)).symm,
    (Nat.div_le_iff_le_mul_of_dvd hsize.ne' (Nat.dvd_of_mod_eq_zero hrow)).mpr hrowLe,
    hcolLt.imp (Nat.div_lt_iff_lt_mul hsize).mpr fun h => by simp [h], hencoded⟩

theorem WalkAt.walkInv {s : State} {i j : Nat} (h : WalkAt s i j) : WalkInv s := by
  obtain ⟨hclear, hrow, hcol, hrowLe, hcolLt, hencoded⟩ := h
  have hsize := Layout.cellSize_pos s.config.layout
  refine fun _ _ => ⟨hclear, by simp [hrow], by simp [hcol], ?_, hcolLt.imp ?_ ?_, ?_⟩
  · rw [hrow]
    exact Nat.mul_le_mul_right _ hrowLe
  · intro hj
    rw [hcol]
    exact Nat.mul_lt_mul_of_pos_right hj hsize
  · intro hj
    rw [hcol, hj, Nat.zero_mul]
  · rw [visited, hrow, hcol, Nat.mul_div_cancel _ hsize, Nat.mul_div_cancel _ hsize]
    exact hencoded

/-- The blocks of one cell more (R53). -/
theorem encodeCells_take_succ {l : Layout} {g : Grid} {cells : List (Nat × Nat)} {n : Nat}
    {cell : Nat × Nat} (h : cells[n]? = some cell) :
    encodeCells l g (cells.take (n + 1)) =
      { planar := (encodeCells l g (cells.take n)).planar ++
          (Layout.blocks l (g.windowAt cell.2 cell.1)).planar
        linear := (encodeCells l g (cells.take n)).linear ++
          (Layout.blocks l (g.windowAt cell.2 cell.1)).linear } := by
  rw [List.take_add_one, h, encodeCells_append]
  simp [encodeCells]

/-- Encoding the cell the walk stands at adds its number to those encoded. -/
theorem WalkAt.encoded_afterCell {s : State} {i j : Nat} (h : WalkAt s i j) (hi : i < cellRowCount s)
    (hj : j < cellColCount s) :
    streams (afterCell s) = blocksOfFirst s (i * cellColCount s + j + 1) := by
  obtain ⟨hplanar, hlinear⟩ := Blocks.mk.inj h.encoded
  have hcell := runCells_getElem? hi hj
  rw [← h.row, ← h.col] at hcell
  rw [blocksOfFirst, cellColCount, encodeCells_take_succ hcell]
  simp only [streams, afterCell, State.appendBlocks_planar, State.appendBlocks_linear,
    State.withOperands_planar, State.withOperands_linear]
  rw [hplanar, hlinear]
  rfl

theorem WalkAt.start {s : State} (hclear : s.faultValid = false) (hrow : s.walkRow = 0)
    (hcol : s.walkCol = 0) (hplanar : s.planar = []) (hlinear : s.linear = []) : WalkAt s 0 0 where
  clear := hclear
  row := by simp [hrow]
  col := by simp [hcol]
  row_le := Nat.zero_le _
  col_lt := .inr rfl
  encoded := by simp [streams, blocksOfFirst, hplanar, hlinear]

/-- What a run keeps from its walk to the writing: program, grid, options and writability. -/
def runSetup (s : State) : HostProgram × Grid × ConversionConfig × CommandLine × Bool × Bool :=
  (s.program, s.grid, s.config, s.commandLine, s.planarWritable, s.linearWritable)

@[simp] theorem runSetup_advanceCursor (s : State) (size w : Nat) :
    runSetup (s.advanceCursor size w) = runSetup s := by
  unfold State.advanceCursor
  split <;> rfl

/-- After a cell the walk stands at the next one, column-fastest (R118). -/
theorem WalkAt.advanceCursor {s : State} {i j : Nat} (h : WalkAt s i j) (hi : i < cellRowCount s)
    (hj : j < cellColCount s) :
    ∃ i' j', WalkAt ((afterCell s).advanceCursor (Layout.cellSize s.config.layout)
        (truncated s.grid.width (Layout.cellSize s.config.layout))) i' j' ∧
      i * (cellColCount s + 1) + j < i' * (cellColCount s + 1) + j' := by
  have hsize := Layout.cellSize_pos s.config.layout
  have hencoded := h.encoded_afterCell hi hj
  have hcol : s.walkCol + Layout.cellSize s.config.layout =
      (j + 1) * Layout.cellSize s.config.layout := by rw [h.col, Nat.succ_mul]
  have hrow : s.walkRow + Layout.cellSize s.config.layout =
      (i + 1) * Layout.cellSize s.config.layout := by rw [h.row, Nat.succ_mul]
  have hlast : (afterCell s).walkCol + Layout.cellSize s.config.layout <
      truncated s.grid.width (Layout.cellSize s.config.layout) ↔ j + 1 < cellColCount s := by
    rw [show (afterCell s).walkCol = s.walkCol from rfl, hcol, truncated, Nat.mul_lt_mul_right hsize,
      cellColCount]
  by_cases hnext : j + 1 < cellColCount s
  · refine ⟨i, j + 1, ?_, by omega⟩
    rw [State.advanceCursor, if_pos (hlast.mpr hnext)]
    exact ⟨h.clear, h.row, hcol, hi.le, .inl hnext, hencoded⟩
  · have hcw : j + 1 = cellColCount s := by omega
    refine ⟨i + 1, 0, ?_, by rw [Nat.succ_mul]; omega⟩
    rw [State.advanceCursor, if_neg (mt hlast.mp hnext)]
    refine ⟨h.clear, hrow, (Nat.zero_mul _).symm, hi, .inr rfl, ?_⟩
    rw [Nat.add_assoc, hcw, ← Nat.succ_mul] at hencoded
    exact hencoded

/-- A row without a whole cell adds no block (log 17). -/
theorem WalkAt.skipRow {s : State} {i j : Nat} (h : WalkAt s i j) (hi : i < cellRowCount s)
    (hj : cellColCount s ≤ j) :
    WalkAt (s.withCursor (s.walkRow + Layout.cellSize s.config.layout) 0) (i + 1) 0 := by
  obtain ⟨rfl, hcw⟩ : j = 0 ∧ cellColCount s = 0 := by have := h.col_lt; omega
  have hrow : s.walkRow + Layout.cellSize s.config.layout =
      (i + 1) * Layout.cellSize s.config.layout := by rw [h.row, Nat.succ_mul]
  have hnumber : i * cellColCount s + 0 = (i + 1) * cellColCount s + 0 := by simp [hcw]
  exact ⟨h.clear, hrow, (Nat.zero_mul _).symm, hi, .inr rfl, h.encoded.trans (congrArg _ hnumber)⟩

/-- A step of the walk ends it after the last cell-row, or goes on at a later place (R118, R119). -/
theorem WalkAt.walkStep_cases {s : State} {i j : Nat} (h : WalkAt s i j) :
    (i = cellRowCount s ∧ walkStep s = .next (s.withPhase .write)) ∨
    (i < cellRowCount s ∧ ∃ t i' j', walkStep s = .next t ∧ WalkAt t i' j' ∧ t.phase = s.phase ∧
      runSetup t = runSetup s ∧
      i * (cellColCount s + 1) + j < i' * (cellColCount s + 1) + j') := by
  have hsize := Layout.cellSize_pos s.config.layout
  rcases h.row_le.eq_or_lt with hi | hi
  · refine .inl ⟨hi, walkStep_of_no_row ?_⟩
    rw [h.row, hi]
    rfl
  · have hrow : s.walkRow < truncated s.grid.height (Layout.cellSize s.config.layout) := by
      rw [h.row]
      exact Nat.mul_lt_mul_of_pos_right hi hsize
    refine .inr ⟨hi, ?_⟩
    rcases Nat.lt_or_ge j (cellColCount s) with hj | hj
    · have hcol : s.walkCol < truncated s.grid.width (Layout.cellSize s.config.layout) := by
        rw [h.col]
        exact Nat.mul_lt_mul_of_pos_right hj hsize
      obtain ⟨i', j', hat, hlater⟩ := h.advanceCursor hi hj
      exact ⟨_, i', j', walkStep_of_aligned_cell h.clear (by simp [h.row]) (by simp [h.col]) hrow hcol,
        hat, State.advanceCursor_phase _ _ _, runSetup_advanceCursor _ _ _, hlater⟩
    · have hcol : truncated s.grid.width (Layout.cellSize s.config.layout) ≤ s.walkCol := by
        rw [h.col]
        exact Nat.mul_le_mul_right _ hj
      exact ⟨_, i + 1, 0, walkStep_of_no_cell hrow hcol, h.skipRow hi hj, rfl, rfl,
        by have := h.col_lt; rw [Nat.succ_mul]; omega⟩

/-- Past the last cell-row all cells of the run are encoded. -/
theorem WalkAt.encoded_all {s : State} {j : Nat} (h : WalkAt s (cellRowCount s) j) :
    streams s = walkBlocks s.config.layout s.grid := by
  rw [h.encoded, blocksOfFirst, List.take_of_length_le, walkBlocks]
  rw [runCells_length]
  exact Nat.le_add_right _ _

/-! ### The walk's invariant -/

/-- Before the commands of a run neither part of the walk's invariant says anything. -/
theorem walk_invariant_of_before {s : State} (hc : s.phase ≠ .commands) (hw : s.phase ≠ .write)
    (he : s.phase ≠ .ended) : WalkInv s ∧ WalkDone s := by
  refine ⟨fun _ hp => absurd hp hc, fun _ hp => ?_⟩
  rcases hp with hp | ⟨hp, -⟩
  · exact absurd hp hw
  · exact absurd hp he

/-- Neither does it of a host that issues commands itself (R120). -/
theorem walk_invariant_of_direct {s : State} {commands : List Command}
    (h : s.program = .direct commands) : WalkInv s ∧ WalkDone s :=
  have hprog : s.program ≠ .convert := by simp [h]
  ⟨fun hc => absurd hc hprog, fun hc => absurd hc hprog⟩

/-- Neither does it of a run that ended before its walk (R133, R134). -/
theorem walk_invariant_of_early_end {s : State} {e : RunError} (he : e ≠ .ioError) (status : Nat)
    (files : List OutFile) : WalkInv (s.endRun (some e) status files) ∧
      WalkDone (s.endRun (some e) status files) := by
  refine ⟨fun _ hp => absurd hp (by simp), fun _ hp => ?_⟩
  simp [he] at hp

theorem WalkAt.walk_invariant {s : State} {i j : Nat} (h : WalkAt s i j) (hp : s.phase = .commands) :
    WalkInv s ∧ WalkDone s :=
  ⟨h.walkInv, fun _ hend => by simp [hp] at hend⟩

theorem waitStep_keeps_walk_invariant {s : State} (h : WalkInv s ∧ WalkDone s) :
    WalkInv (waitStep s) ∧ WalkDone (waitStep s) := by
  cases hl : s.launches with
  | nil => rwa [waitStep_of_no_launch hl]
  | cons l rest =>
    rw [waitStep_of_launch hl]
    exact walk_invariant_of_before (by simp) (by simp) (by simp)

theorem decodeStep_walk_invariant (s : State) : WalkInv (decodeStep s) ∧ WalkDone (decodeStep s) := by
  cases himage : s.image with
  | none =>
    rw [decodeStep_of_no_image himage]
    exact walk_invariant_of_early_end (by decide) _ _
  | some im =>
    rw [decodeStep_of_image himage]
    exact walk_invariant_of_before (by simp) (by simp) (by simp)

theorem colourCheckStep_walk_invariant (s : State) :
    WalkInv (colourCheckStep s) ∧ WalkDone (colourCheckStep s) := by
  unfold colourCheckStep
  split
  · exact walk_invariant_of_before (by simp) (by simp) (by simp)
  · exact walk_invariant_of_early_end (by decide) _ _

theorem walkAt_resetBlock (s : State) : WalkAt (s.resetBlock.withPhase .commands) 0 0 :=
  WalkAt.start rfl rfl rfl rfl rfl

/-- The writing leaves what the walk has made. -/
theorem writeStep_keeps_walk_invariant {s : State} (h : WalkDone s) (hp : s.phase = .write) :
    WalkInv (writeStep s) ∧ WalkDone (writeStep s) := by
  refine ⟨fun _ hc => by simp [writeStep_phase] at hc, ?_⟩
  rcases writeStep_cases s with ⟨-, hw⟩ | ⟨-, -, hw⟩ | ⟨-, -, hw⟩
  all_goals
    rw [hw]
    exact fun hprog _ => h hprog (.inl hp)

theorem step_commands_keeps_walk_invariant {s t : State} (h : WalkInv s) (hp : s.phase = .commands)
    (hstep : step s = .next t) : WalkInv t ∧ WalkDone t := by
  cases hprog : s.program with
  | convert =>
    obtain ⟨i, j, hat⟩ := h.walkAt hprog hp
    rw [step_convert hp hprog] at hstep
    rcases hat.walkStep_cases with ⟨rfl, hw⟩ | ⟨-, u, i', j', hw, hu, hphase, -⟩
    · obtain rfl := Host.Outcome.next.inj (hw.symm.trans hstep)
      exact ⟨fun _ hc => by simp at hc, fun _ _ => ⟨hat.clear, hat.encoded_all⟩⟩
    · obtain rfl := Host.Outcome.next.inj (hw.symm.trans hstep)
      exact hu.walk_invariant (hphase.trans hp)
  | direct commands =>
    cases commands with
    | nil =>
      obtain rfl := Host.Outcome.next.inj ((step_direct_done hp hprog).symm.trans hstep)
      exact walk_invariant_of_direct hprog
    | cons c rest =>
      have hframe := issue_frame ((step_direct hp hprog).symm.trans hstep)
      exact walk_invariant_of_direct (commands := rest) (by rw [hframe]; rfl)

/-- Settles O58: the walk starts at cell 0 after the block reset, every step of it adds the cell it
stands at, and after the last cell-row all are there. -/
theorem stepKeepsWalkInvariant : Obligations.StepKeepsWalkInvariant := by
  intro s h
  obtain ⟨t, ht⟩ := everyStepAnswers s
  refine ⟨t, ht, step_elim (Q := fun u => WalkInv u ∧ WalkDone u) ht
    (fun _ => waitStep_keeps_walk_invariant h) (fun _ => decodeStep_walk_invariant s)
    (fun _ => colourCheckStep_walk_invariant s) (fun _ => ?configure)
    (fun _ => (walkAt_resetBlock s).walk_invariant rfl)
    (fun hp => step_commands_keeps_walk_invariant h.1 hp ht)
    (fun hp => writeStep_keeps_walk_invariant h.2 hp)⟩
  case configure =>
    have hphase : (configureStep s).phase = .resetBlock := rfl
    exact walk_invariant_of_before (by simp [hphase]) (by simp [hphase]) (by simp [hphase])

/-! ### The whole run -/

/-- Steps can be run in two parts. -/
theorem run_add {s t : State} {n : Nat} (m : Nat) (h : Host.Core.run core n s = .next t) :
    Host.Core.run core (n + m) s = Host.Core.run core m t := by
  induction n generalizing s with
  | zero =>
    obtain rfl := Host.Outcome.next.inj h
    rw [Nat.zero_add]
  | succ n ih =>
    obtain ⟨u, hu⟩ := everyStepAnswers s
    rw [run_succ n hu] at h
    rw [Nat.add_right_comm, run_succ (n + m) hu, ih h]

/-- Five steps take a launch of an indexed image from the wait to its first cell (R154). -/
theorem run_to_walk {s : State} {l : Launch} {rest : List Launch} {im : Image}
    (hs : s.phase = .idle ∨ s.phase = .ended) (hl : s.launches = l :: rest)
    (himage : l.image = some im) (hmode : im.colourMode = .indexed8) :
    ∃ u : State, Host.Core.run core 5 s = .next u ∧ u.phase = .commands ∧ WalkAt u 0 0 ∧
      runSetup u = (l.program, im.grid,
        { layout := l.commandLine.type, emitLinear := l.commandLine.emitLinear }, l.commandLine,
        l.planarWritable, l.linearWritable) := by
  have hdecode := decodeStep_of_image (s := s.beginRun l rest) himage
  rw [run_succ 4 (step_beginRun hs hl), run_succ 3 (step_decode rfl), hdecode,
    run_succ 2 (step_colourCheck rfl), colourCheckStep, if_pos hmode, run_succ 1 (step_configure rfl),
    run_succ 0 (step_resetBlock rfl)]
  exact ⟨_, rfl, rfl, walkAt_resetBlock _, rfl⟩

/-- A walk with at most `k` places before its end reaches the writing within `k + 1` steps, all cells
encoded. -/
theorem WalkAt.run_to_write {s : State} {i j k : Nat} (h : WalkAt s i j) (hp : s.phase = .commands)
    (hprog : s.program = .convert)
    (hk : cellRowCount s * (cellColCount s + 1) ≤ i * (cellColCount s + 1) + j + k) :
    ∃ (n : Nat) (t : State), n ≤ k + 1 ∧ Host.Core.run core n s = .next t ∧ t.phase = .write ∧
      t.faultValid = false ∧ streams t = walkBlocks s.config.layout s.grid ∧ runSetup t = runSetup s := by
  induction k generalizing s i j with
  | zero =>
    rcases h.walkStep_cases with ⟨rfl, hw⟩ | ⟨hi, -⟩
    · exact ⟨1, _, le_rfl, run_succ 0 ((step_convert hp hprog).trans hw), rfl, h.clear, h.encoded_all,
        rfl⟩
    · have hrows := Nat.mul_le_mul_right (cellColCount s + 1) hi
      have := h.col_lt
      rw [Nat.succ_mul] at hrows
      omega
  | succ k ih =>
    rcases h.walkStep_cases with ⟨rfl, hw⟩ | ⟨-, t, i', j', hw, hat, hphase, hsetup, hlater⟩
    · exact ⟨1, _, Nat.le_add_left _ _, run_succ 0 ((step_convert hp hprog).trans hw), rfl, h.clear,
        h.encoded_all, rfl⟩
    · have hkept := hsetup
      simp only [runSetup, Prod.mk.injEq] at hkept
      obtain ⟨hprogram, hgrid, hconfig, -⟩ := hkept
      have hrows : cellRowCount t = cellRowCount s := by rw [cellRowCount, cellRowCount, hgrid, hconfig]
      have hcols : cellColCount t = cellColCount s := by rw [cellColCount, cellColCount, hgrid, hconfig]
      obtain ⟨n, u, hn, hrun, hwrite, hclear, hstreams, hset⟩ :=
        ih hat (hphase.trans hp) (hprogram.trans hprog) (by rw [hrows, hcols]; omega)
      exact ⟨n + 1, u, by omega, (run_succ n ((step_convert hp hprog).trans hw)).trans hrun, hwrite,
        hclear, by rw [hstreams, hgrid, hconfig], hset.trans hsetup⟩

/-- Settles O59: five steps to the walk, one for each place of it and one for its end, and the
writing. -/
theorem convertRunEndsWithWalkStreams : Obligations.ConvertRunEndsWithWalkStreams := by
  intro s l rest im hs hl himage hmode hprog size
  obtain ⟨u, hrunu, hpu, hat, hsetu⟩ := run_to_walk hs hl himage hmode
  have hu := hsetu
  simp only [runSetup, Prod.mk.injEq] at hu
  obtain ⟨hprogu, hgridu, hconfigu, -⟩ := hu
  obtain ⟨n, t, hn, hrunt, hpt, hclear, hstreams, hsett⟩ :=
    hat.run_to_write (k := cellRowCount u * (cellColCount u + 1)) hpu (hprogu.trans hprog) (by omega)
  have ht := hsett.trans hsetu
  simp only [runSetup, Prod.mk.injEq] at ht
  obtain ⟨-, -, hconfig, -, hplanar, hlinear⟩ := ht
  obtain ⟨hvalid, -, hp, hl⟩ := State.output_eq_iff.mp (writeStep_output t)
  refine ⟨5 + (n + 1), writeStep t, ?_, ?_, writeStep_phase t, hvalid.trans hclear, ?_,
    fun hpw hlw => ?_⟩
  · rw [cellRowCount, cellColCount, hgridu, hconfigu] at hn
    change n ≤ im.grid.height / size * (im.grid.width / size + 1) + 1 at hn
    omega
  · rw [run_add _ hrunu, run_add _ hrunt, run_succ 0 (step_write hpt)]
    rfl
  · rw [hp, hl, ← streams, hstreams, hconfigu, hgridu]
  · have hwritable : t.writtenStreams.all t.writable = true := by
      rw [all_writable_iff, hplanar, hlinear, hconfig]
      exact ⟨hpw, hlw⟩
    rw [writeStep_of_writable hclear hwritable]
    exact ⟨rfl, rfl⟩

end Sys2Proof.Safety
end
